-- ==== Sys2Proof/Word.lean ====
section
/-! DEFINITION. The widths the KJ416 uses: bytes of the control link, lane values, and the counted words that travel in messages. -/

namespace Sys2Proof

/-- One byte of a message (R172). -/
abbrev Byte := BitVec 8

/-- A lane value: a signed whole number in the range of a 24-bit two's complement sample (00_scope.md, "Lane values"). -/
abbrev Lane := BitVec 24

/-- A frame number: 40 bits, wrapping (00_scope.md, "Frame numbers"). -/
abbrev FrameNumber := BitVec 40

/-- A run number: 16 bits; 0 stands for no run (R189). -/
abbrev RunNumber := BitVec 16

/-- A capture id: 1 to 65535; 0 means none (R157). -/
abbrev CaptureId := BitVec 16

/-- A 16-bit saturating count. -/
abbrev Count := BitVec 16

/-- A page of the capture store (R149). -/
abbrev Page := Fin 256

/-- An event source id, 0 to 87 (R82). -/
abbrev EventId := Fin 88

/-- A saturating count increases by one until it reaches its maximum (00_scope.md, "Saturating counts"). -/
def satInc {w : Nat} (c : BitVec w) : BitVec w :=
  if c = BitVec.allOnes w then c else c + 1#w

/-- A count that wraps from its maximum to 1, so that 0 is never reached again (R157, R189, R194). -/
def nextFromOne {w : Nat} (c : BitVec w) : BitVec w :=
  if c = BitVec.allOnes w then 1#w else c + 1#w

end Sys2Proof
end

