-- ==== Sys2Proof/Config.lean ====
section
/-! DEFINITION. What the part fixes once and for all: its resource counts, its message codes and its time base. The spec leaves no value open after a command that goes on, so there is no free value here. -/

namespace Sys2Proof.Config

/-- Periods of the 24.576 MHz time base in one millisecond (R11, R111, R200). -/
def periodsPerMs : Nat := 24576

/-- A message in progress fails when more than this many periods (10 ms) pass without a byte (R175). -/
def receiveTimeout : Nat := 10 * periodsPerMs

/-- Requests the request queue holds (R176). -/
def requestPlaces : Nat := 2

/-- Replies the reply queue holds (R180). -/
def replyPlaces : Nat := 4

/-- Notices the notice queue holds (R183). -/
def noticePlaces : Nat := 16

/-- Records the index holds (R155). -/
def indexPlaces : Nat := 32

/-- Sample words of one page (R149). -/
def pageWords : Nat := 512

/-- Pages of the capture store (R149). -/
def pageCount : Nat := 256

/-- Entries of a unit's gap list (R131). -/
def gapPlaces : Nat := 8

/-- Bytes of frame data that fit in one READ_FRAMES reply (R163). -/
def readBytes : Nat := 241

/-- The start byte of every message (R172). -/
def startByte : Byte := 0xC3

/-- What a word of the capture store that nothing has written reads as.
DESIGN CHOICE (log 13), unsafe: the spec gives none; no capture offset reaches such a word (R149). -/
def unlistedWord : Lane := 0

end Sys2Proof.Config
end

