-- ==== Sys2Proof/Syntax.lean ====
section
/-! DEFINITION. The commands of the block: one constructor for each row of spec/opcode_table.json, with the operands the outside world supplies. -/

namespace Sys2Proof

/-- An edge of the bit clock SCK (R4, "sampling edge"). -/
inductive ClockEdge where
  | rising
  | falling
  deriving DecidableEq, Repr

/-- One edge of SCK with the levels FSY, SDA and SDB have at it (R1, R5).
In PROVIDER clocking the part drives FSY itself and `fsy` is not looked at (R3). -/
structure SckEdge where
  edge : ClockEdge
  fsy  : Bool
  sda  : Bool
  sdb  : Bool
  deriving DecidableEq, Repr

/-- What comes about during the work of a taken frame, beside its fixed part (R74, R96, R99; log 7): an edge of SCK; time without a sync edge (periods of the 24.576 MHz time base, R11); the last stop bit of the notice that LTX carries (R181); and the moments of the work itself: timer `t` applies its action, the next EVENT notice is offered, the next unit works. -/
inductive StreamEvent where
  | edge  (e : SckEdge)
  | quiet (periods : Nat)
  | noticeSent
  | timer (t : Fin 4)
  | event
  | unit
  deriving DecidableEq, Repr

/-- One byte time on LRX (R171): whether the line has been high before the start bit, the eight data bits in the order they are sampled, and the level at which the stop bit is sampled. -/
structure LrxByte where
  high : Bool
  bits : Vector Bool 8
  stop : Bool
  deriving DecidableEq, Repr

/-- What began a hard reset (R199). -/
inductive ResetCause where
  | power
  | pin
  deriving DecidableEq, Repr

/-- The levels the part samples at the end of a hard reset (R117, R171). -/
structure ResetPins where
  baud1 : Bool
  baud0 : Bool
  in0   : Bool
  in1   : Bool
  deriving DecidableEq, Repr

/-- The commands of the block, in the order of spec/opcode_table.json. A request row has no operand of its own: it carries out the oldest request of the request queue, whose tag and payload stand there (R177; log 3). -/
inductive Instr where
  | hardReset (cause : ResetCause) (pins : ResetPins)
  | startupSetupRead
  | messageReceived (bytes : List LrxByte)
  | receiveTimeout (periods : Nat)
  | unknownKind
  | replyPlaced
  | transmitComplete
  | identify
  | status
  | run
  | stop
  | restart
  | restartSetupRead
  | saveSetup
  | saveComplete (verified : Bool)
  | loadSetup
  | loadComplete
  | defaultSetup
  | setAutorun
  | setPort
  | getPort
  | setMeasure
  | getMeasure
  | setCondition
  | getCondition
  | armCondition
  | disarmCondition
  | unlatchCondition
  | setTimer
  | getTimer
  | startTimer
  | stopTimer
  | resumeTimer
  | setBinding
  | getBinding
  | fire
  | setLine
  | getLines
  | driveLine
  | setUnit
  | getUnit
  | armUnit
  | triggerUnit
  | abortUnit
  | listCaptures
  | getCapture
  | readFrames
  | holdCapture
  | releaseCapture
  | setStore
  | getStore
  | firstSyncEdge (edges : List SckEdge)
  | frameBoundary (edges : List SckEdge)
  | timerExpire (timer : Fin 4) (edges : List SckEdge)
  | syncLost (periods : Nat)
  | syncRegained (edges : List SckEdge)
  | take (during : List StreamEvent)
  | inputAccepted (input : Fin 2) (periods : Nat)
  | inputPinChange (input : Fin 2) (level : Bool)
  | stopBitError (byte : LrxByte)
  deriving DecidableEq, Repr

end Sys2Proof
end

