-- ==== Sys2Proof/Decode.lean ====
section
/-! DEFINITION. The table of commands gives no row any bits, so no word spells a command (log 4). The messages on the control link are decoded by the receiver and the dispatcher (Machine/Link.lean, Machine/Operands.lean). -/

namespace Sys2Proof

/-- The command a word spells by the table's bits: none, since no row of spec/opcode_table.json gives bits. -/
def decodeTableWord (_nbits _w : Nat) : Option Instr := none

end Sys2Proof
end

