-- ==== Sys2Proof/Machine/Setup.lean ====
section
/-! DEFINITION. The working setup: the configuration every block reads (R193). -/

namespace Sys2Proof.Machine

/-- Bit clocks per slot (R4). -/
inductive SlotPitch where
  | p16
  | p24
  | p32
  deriving DecidableEq, Repr

/-- Bits of a sample (R4). -/
inductive SampleWidth where
  | w16
  | w24
  deriving DecidableEq, Repr

/-- Which bit of a sample is received first (R4, R6). -/
inductive BitOrder where
  | msbFirst
  | lsbFirst
  deriving DecidableEq, Repr

/-- The setup of one stream port (R4). `delay` is the frame delay: true for 1. -/
structure PortSetup where
  enabled : Bool
  slots   : Nat
  pitch   : SlotPitch
  width   : SampleWidth
  order   : BitOrder
  delay   : Bool
  edge    : ClockEdge
  deriving DecidableEq, Repr

/-- Which party drives SCK and FSY (R2, R3). -/
inductive ClockSource where
  | follower
  | provider
  deriving DecidableEq, Repr

/-- The interface setup both ports share (R4). -/
structure InterfaceSetup where
  source      : ClockSource
  divider     : Nat
  frameLength : Nat
  syncLossMs  : Nat
  deriving DecidableEq, Repr

/-- The eight measure kinds (R25). -/
inductive MeasureKind where
  | copy
  | diff
  | mag
  | peak
  | trough
  | span
  | mean
  | meanprod
  deriving DecidableEq, Repr

/-- The setup of one measure (R25). -/
structure MeasureSetup where
  enabled : Bool
  kind    : MeasureKind
  laneA   : Fin 16
  laneB   : Fin 16
  window  : Nat
  deriving DecidableEq, Repr

/-- The four tests of a condition (R47). -/
inductive Test where
  | above
  | below
  | outside
  | inside
  deriving DecidableEq, Repr

/-- The setup of one condition (R44). -/
structure ConditionSetup where
  measure    : Fin 16
  test       : Test
  upper      : Lane
  lower      : Lane
  hysteresis : Nat
  qualify    : Nat
  release    : Nat
  latched    : Bool
  armAtRun   : Bool
  deriving DecidableEq, Repr

/-- What a timer does at its expiry (R67). -/
inductive TimerMode where
  | oneShot
  | repeating
  deriving DecidableEq, Repr

/-- Which way a timer counts (R67). -/
inductive Direction where
  | down
  | up
  deriving DecidableEq, Repr

/-- The setup of one frame timer (R67). -/
structure TimerSetup where
  period     : Nat
  mode       : TimerMode
  direction  : Direction
  startAtRun : Bool
  deriving DecidableEq, Repr

/-- The thirteen actions, in the order of their codes (R92). -/
inductive Action where
  | condArm
  | condDisarm
  | condUnlatch
  | timerStart
  | timerStop
  | timerResume
  | unitArm
  | unitTrigger
  | unitAbort
  | lineSet
  | lineClear
  | lineToggle
  | notify
  deriving DecidableEq, Repr

/-- The guard of a binding (R93). -/
inductive GuardKind where
  | always
  | whenAsserted
  | whenNotAsserted
  deriving DecidableEq, Repr

/-- One record of the binding table (R91). -/
structure Binding where
  enabled   : Bool
  source    : EventId
  action    : Action
  target    : Nat
  guardKind : GuardKind
  guardCond : Fin 32
  deriving DecidableEq, Repr

/-- What the pin of an output shows (R106). -/
inductive LineMode where
  | actions
  | condition
  deriving DecidableEq, Repr

/-- Whether the logical level is driven as it stands or inverted (R106). -/
inductive Polarity where
  | normal
  | inverted
  deriving DecidableEq, Repr

/-- The setup of one output line (R106). -/
structure OutputSetup where
  mode      : LineMode
  condition : Fin 32
  polarity  : Polarity
  deriving DecidableEq, Repr

/-- What a TRIGGER does to a unit in POST (R129). -/
inductive Retrigger where
  | ignore
  | extend
  deriving DecidableEq, Repr

/-- What follows a page refused in POST (R132, R133). -/
inductive FullPolicy where
  | truncate
  | discard
  deriving DecidableEq, Repr

/-- The setup of one capture unit (R118). Bit l of the lane mask stands for lane Ll (R142). -/
structure UnitSetup where
  mask      : BitVec 16
  pre       : Nat
  post      : Nat
  retrigger : Retrigger
  full      : FullPolicy
  autoRearm : Bool
  armAtRun  : Bool
  deriving DecidableEq, Repr

/-- What a full index does with a new capture (R156). -/
inductive IndexPolicy where
  | keepOld
  | replaceOld
  deriving DecidableEq, Repr

/-- The store settings (R153, R156). -/
structure StoreSetup where
  lowWater : Nat
  policy   : IndexPolicy
  deriving DecidableEq, Repr

/-- The working setup (R193). Input lines have one field, the filter time in microseconds (R111). -/
structure Setup where
  portA      : PortSetup
  portB      : PortSetup
  interface  : InterfaceSetup
  measures   : Vector MeasureSetup 16
  conditions : Vector ConditionSetup 32
  timers     : Vector TimerSetup 4
  bindings   : Vector Binding 48
  outputs    : Vector OutputSetup 4
  filters    : Vector Nat 2
  units      : Vector UnitSetup 4
  store      : StoreSetup
  autoRun    : Bool
  deriving DecidableEq, Repr

end Sys2Proof.Machine
end

