-- ==== Sys2Proof/Machine/Blocks.lean ====
section
/-! DEFINITION. The runtime state each block of the KJ416 holds, as plain data. -/

namespace Sys2Proof.Machine

/-- The engine state (R189). -/
inductive EngineState where
  | stopped
  | running
  deriving DecidableEq, Repr

/-- The state of the stored setup image (R194). -/
inductive ImageState where
  | neverWritten
  | valid
  | invalid
  deriving DecidableEq, Repr

/-- The stored setup image in nonvolatile memory (R194). -/
structure SetupImage where
  state      : ImageState
  generation : BitVec 32
  contents   : Setup
  deriving DecidableEq, Repr

/-- The interface state (section 1.3). -/
inductive IfaceState where
  | off
  | seeking
  | receiving
  | lost
  deriving DecidableEq, Repr

/-- A completed frame in the holding stage: its number and the slot samples of both ports, as lane values (R13, R6). -/
structure HeldFrame where
  number : FrameNumber
  slotsA : List Lane
  slotsB : List Lane
  deriving DecidableEq, Repr

/-- The frame interface.
`shiftA`, `shiftB`: the bits received since the sync edge that started the frame, oldest first (R5).
`lastFsy`: FSY at the previous SA sampling edge; `fsyLow`: FSY sampled low since SEEKING or LOST was entered (R1).
`firstFsyDue`: a PROVIDER run whose first FSY has not come (R9).
`fsyPhase`: SA sampling edges since the part last drove FSY high, modulo the frame length (R3).
`syncTimer`: the sync-loss measurement, in periods of the time base (R11).
`sckHigh`: the level of SCK after its last edge; low in OFF (R3 in PROVIDER clocking; log 10 in FOLLOWER clocking). -/
structure FrameInterface where
  state       : IfaceState
  shiftA      : List Bool
  shiftB      : List Bool
  holding     : Option HeldFrame
  frameNumber : FrameNumber
  shortFrames : Count
  overruns    : Count
  syncLosses  : Count
  lastFsy     : Bool
  fsyLow      : Bool
  firstFsyDue : Bool
  fsyPhase    : Nat
  syncTimer   : Option Nat
  sckHigh     : Bool
  deriving DecidableEq, Repr

/-- The runtime state of one measure (R26). -/
structure MeasureState where
  output   : Lane
  fresh    : Bool
  position : Nat
  largest  : Lane
  smallest : Lane
  sum      : Int
  deriving DecidableEq, Repr

/-- The states of a condition (R46). -/
inductive CondPhase where
  | disarmed
  | watching
  | asserted
  deriving DecidableEq, Repr

/-- The runtime state of one condition (R46). -/
structure ConditionState where
  phase      : CondPhase
  runCount   : Nat
  assertions : Count
  deriving DecidableEq, Repr

/-- The states of a timer (R68). -/
inductive TimerPhase where
  | idle
  | running
  | held
  deriving DecidableEq, Repr

/-- The runtime state of one frame timer (R68). -/
structure TimerState where
  phase    : TimerPhase
  count    : Nat
  expiries : Count
  deriving DecidableEq, Repr

/-- The runtime state of one input line: the level at its latest sample, the filtered level, and the hold measurement in periods of the time base (R111, R115). -/
structure InputState where
  pin      : Bool
  filtered : Bool
  hold     : Option Nat
  deriving DecidableEq, Repr

/-- The states of a capture unit (R120). -/
inductive UnitPhase where
  | idle
  | filling
  | armed
  | post
  deriving DecidableEq, Repr

/-- The flags of a capture (R121). -/
structure CaptureFlags where
  preGap         : Bool
  gapsOverflowed : Bool
  interrupted    : Bool
  truncated      : Bool
  aborted        : Bool
  stopped        : Bool
  extended       : Bool
  deriving DecidableEq, Repr

/-- One entry of a gap list (R131). -/
structure GapEntry where
  offset  : Nat
  missing : Nat
  deriving DecidableEq, Repr

/-- The state and the working capture record of one unit (R120).
`ringFrames` holds the frame number of each ring place in use, place 0 first.
`triggerFrame` and `firstFrame` are none until they are fixed (R127, R128). -/
structure UnitState where
  phase         : UnitPhase
  historyCount  : Nat
  ringHead      : Nat
  ringFrames    : List FrameNumber
  prePages      : List Page
  postPages     : List Page
  preCount      : Nat
  postCount     : Nat
  remaining     : Nat
  lastStored    : Option FrameNumber
  triggerFrame  : Option FrameNumber
  triggerSource : Byte
  triggerWord   : BitVec 32
  firstFrame    : Option FrameNumber
  extensions    : Byte
  extraTriggers : Byte
  gaps          : List GapEntry
  flags         : CaptureFlags
  deriving DecidableEq, Repr

/-- A capture record of the index (R155). `pages` lists the pre pages in ring order and then the post pages; `ringHead` and `pre` are those at the trigger. -/
structure CaptureRecord where
  id            : CaptureId
  unit          : Fin 4
  run           : RunNumber
  mask          : BitVec 16
  firstFrame    : FrameNumber
  triggerFrame  : FrameNumber
  preCount      : Nat
  postCount     : Nat
  flags         : CaptureFlags
  triggerSource : Byte
  triggerWord   : BitVec 32
  extensions    : Byte
  extraTriggers : Byte
  gaps          : List GapEntry
  held          : Bool
  pages         : List Page
  ringHead      : Nat
  pre           : Nat
  deriving DecidableEq, Repr

/-- The low-water state (R153). -/
inductive LowWater where
  | normal
  | low
  deriving DecidableEq, Repr

/-- The sample words of the capture store that differ from the unlisted word: (address, word), addresses strictly rising. Word w of page p stands at address 512 p + w (log 13). -/
abbrev Memory := List (Nat × Lane)

/-- The capture store and index: the free pages, the low-water state, the words, the records oldest close first, the next capture id (R149 to R157). -/
structure Store where
  free   : List Page
  low    : LowWater
  mem    : Memory
  index  : List CaptureRecord
  nextId : CaptureId
  deriving DecidableEq, Repr

/-- The four line rates (R171). -/
inductive LineRate where
  | r115200
  | r460800
  | r921600
  | r2000000
  deriving DecidableEq, Repr

/-- The receiver state with the message in progress (R174). `body`: the length and the bytes kept, in order. `check`: the length, the body and the low check byte once received. -/
inductive RxState where
  | hunt
  | length
  | body (len : Nat) (got : List Byte)
  | check (len : Nat) (got : List Byte) (low : Option Byte)
  deriving DecidableEq, Repr

/-- The receiver. `awaitHigh`: it waits for LRX to be high before it looks for a start bit (R171). `gap`: periods since the last byte of the message in progress (R175). -/
structure Receiver where
  state     : RxState
  awaitHigh : Bool
  gap       : Nat
  deriving DecidableEq, Repr

/-- A request in the request queue (R176). -/
structure Request where
  kind    : Byte
  tag     : Byte
  payload : List Byte
  deriving DecidableEq, Repr

/-- The status codes of replies (R179). -/
inductive Status where
  | ok
  | unknownKind
  | badLength
  | badIndex
  | badValue
  | state
  | inUse
  | noSpace
  | notFound
  | setupConflict
  | overrun
  | storeFailed
  deriving DecidableEq, Repr

/-- A reply: kind, tag, status and what follows the status (R178, R179). -/
structure Reply where
  kind   : Byte
  tag    : Byte
  status : Status
  data   : List Byte
  deriving DecidableEq, Repr

/-- The kinds of stream fault (R19). -/
inductive StreamFault where
  | short
  | overrun
  | lost
  | regained
  deriving DecidableEq, Repr

/-- Why a capture was dropped (R158). -/
inductive DropReason where
  | storeFull
  | indexFull
  | replaced
  deriving DecidableEq, Repr

/-- Where a refused ARM came from, when a notice reports it (R123). -/
inductive ArmCause where
  | action
  | autoRearm
  | armAtRun
  deriving DecidableEq, Repr

/-- What a READY notice reports as its cause (R199). -/
inductive ReadyCause where
  | power
  | pin
  | restart
  deriving DecidableEq, Repr

/-- Where the working setup was loaded from (R198). -/
inductive SetupSource where
  | stored
  | defaultsEmpty
  | defaultsInvalid
  deriving DecidableEq, Repr

/-- A setup item that fails the RUN checks (R190). -/
inductive Conflict where
  | saDisabled
  | measure (m : Fin 16)
  | unit (k : Fin 4)
  deriving DecidableEq, Repr

/-- The outcome of auto-run (R199). -/
inductive AutoRun where
  | off
  | started
  | refused (c : Conflict)
  deriving DecidableEq, Repr

/-- A notice with its fields as they stood when it was placed (R183; R98, R19, R140, R158, R123, R199). -/
inductive Notice where
  | ready (cause : ReadyCause) (source : SetupSource) (generation : BitVec 32) (autoRun : AutoRun) (run : RunNumber)
  | event (binding : Fin 48) (source : EventId) (run : RunNumber) (frame : FrameNumber) (word : BitVec 32)
  | streamFault (fault : StreamFault) (shortA shortB : Bool) (run : RunNumber) (frame : FrameNumber)
  | captureClosed (id : CaptureId) (unit : Fin 4) (run : RunNumber) (flags : CaptureFlags) (trigger : FrameNumber) (pre post : Nat)
  | captureDropped (reason : DropReason) (id : CaptureId) (unit : Fin 4) (run : RunNumber)
  | armFailed (unit : Fin 4) (cause : ArmCause) (run : RunNumber) (frame : FrameNumber) (needed : Nat) (free : Nat)
  deriving DecidableEq, Repr

/-- What the dispatcher is about while EXECUTING: the request is to be checked and carried out, its reply is built and waits for a place (R180), or the restart reads the image (R198). -/
inductive Executing where
  | begun
  | holding (reply : Reply)
  | restarting
  deriving DecidableEq, Repr

/-- What the dispatcher waits for: the image write of a SAVE_SETUP, with its copy of the setup (R195), or the image read of a LOAD_SETUP (R196). -/
inductive Waiting where
  | saving (copy : Setup)
  | loading
  deriving DecidableEq, Repr

/-- The dispatcher state (R177). -/
inductive Dispatcher where
  | idle
  | executing (e : Executing)
  | waiting (w : Waiting)
  deriving DecidableEq, Repr

/-- The transmitter: idle, or sending the oldest reply or the oldest notice, with the bytes it sends on LTX (R181). -/
inductive Transmitter where
  | idle
  | sendingReply (bytes : List Byte)
  | sendingNotice (bytes : List Byte)
  deriving DecidableEq, Repr

/-- The control link (chapter 9). -/
structure Link where
  rate          : LineRate
  receiver      : Receiver
  requests      : List Request
  dispatcher    : Dispatcher
  replies       : List Reply
  notices       : List Notice
  transmitter   : Transmitter
  framingErrors : Count
  lengthErrors  : Count
  timeouts      : Count
  checkErrors   : Count
  overrunDrops  : Count
  noticesLost   : Count
  deriving DecidableEq, Repr

end Sys2Proof.Machine
end

