-- ==== Sys2Proof/Machine/Defaults.lean ====
section
/-! DEFINITION. The default setup and the values each block takes at a hard reset (R24, R43, R66, R81, R105, R117, R148, R170, R187). -/

namespace Sys2Proof.Machine

/-- R24: the default setup of either port. -/
def defaultPort : PortSetup :=
  { enabled := false, slots := 8, pitch := .p32, width := .w24, order := .msbFirst, delay := true, edge := .rising }

/-- R24: the default interface setup. -/
def defaultInterface : InterfaceSetup :=
  { source := .follower, divider := 8, frameLength := 256, syncLossMs := 10 }

/-- R43. -/
def defaultMeasure : MeasureSetup :=
  { enabled := false, kind := .copy, laneA := 0, laneB := 0, window := 1 }

/-- R66. -/
def defaultCondition : ConditionSetup :=
  { measure := 0, test := .above, upper := 0, lower := 0, hysteresis := 0, qualify := 1, release := 1,
    latched := false, armAtRun := false }

/-- R81. -/
def defaultTimer : TimerSetup :=
  { period := 1000, mode := .oneShot, direction := .down, startAtRun := false }

/-- R105. -/
def defaultBinding : Binding :=
  { enabled := false, source := 0, action := .notify, target := 0, guardKind := .always, guardCond := 0 }

/-- R117. -/
def defaultOutput : OutputSetup :=
  { mode := .actions, condition := 0, polarity := .normal }

/-- R117: microseconds. -/
def defaultFilter : Nat := 10

/-- R148: the mask names L0 alone. -/
def defaultUnit : UnitSetup :=
  { mask := 1, pre := 0, post := 1024, retrigger := .ignore, full := .truncate, autoRearm := false, armAtRun := false }

/-- R170. -/
def defaultStore : StoreSetup :=
  { lowWater := 16, policy := .keepOld }

/-- The working setup set to the defaults of every block (R193). -/
def defaultSetup : Setup :=
  { portA := defaultPort
    portB := defaultPort
    interface := defaultInterface
    measures := Vector.replicate 16 defaultMeasure
    conditions := Vector.replicate 32 defaultCondition
    timers := Vector.replicate 4 defaultTimer
    bindings := Vector.replicate 48 defaultBinding
    outputs := Vector.replicate 4 defaultOutput
    filters := Vector.replicate 2 defaultFilter
    units := Vector.replicate 4 defaultUnit
    store := defaultStore
    autoRun := false }

/-- R24. The spec names no value for the FSY samples, the first-FSY mark, the FSY phase and the sync-loss measurement in OFF: DESIGN CHOICE (log 9, log 10, log 18). Nor does it for the level held for SCK, an input at high impedance after a reset: DESIGN CHOICE (log 10). -/
def resetInterface : FrameInterface :=
  { state := .off, shiftA := [], shiftB := [], holding := none, frameNumber := 0,
    shortFrames := 0, overruns := 0, syncLosses := 0,
    lastFsy := false, fsyLow := false, firstFsyDue := false, fsyPhase := 0, syncTimer := none,
    sckHigh := false }

/-- R43, R37: a measure's runtime state when it is cleared. -/
def clearedMeasure : MeasureState :=
  { output := 0, fresh := false, position := 0, largest := 0, smallest := 0, sum := 0 }

/-- R66. -/
def resetCondition : ConditionState :=
  { phase := .disarmed, runCount := 0, assertions := 0 }

/-- R81. -/
def resetTimer : TimerState :=
  { phase := .idle, count := 0, expiries := 0 }

/-- R117: the filtered level is that of the pin at the end of the reset. -/
def resetInput (pin : Bool) : InputState :=
  { pin := pin, filtered := pin, hold := none }

/-- R121: no flag set. -/
def noFlags : CaptureFlags :=
  { preGap := false, gapsOverflowed := false, interrupted := false, truncated := false, aborted := false,
    stopped := false, extended := false }

/-- R120: a unit in IDLE with its working record cleared. The trigger fields and the first frame number are not in R120's list of cleared items: DESIGN CHOICE (log 17). -/
def clearedUnit : UnitState :=
  { phase := .idle, historyCount := 0, ringHead := 0, ringFrames := [], prePages := [], postPages := [],
    preCount := 0, postCount := 0, remaining := 0, lastStored := none, triggerFrame := none,
    triggerSource := 0, triggerWord := 0, firstFrame := none, extensions := 0, extraTriggers := 0,
    gaps := [], flags := noFlags }

/-- Every page of the store (R149). -/
def allPages : List Page := List.finRange 256

/-- R170. -/
def resetStore : Store :=
  { free := allPages, low := .normal, mem := [], index := [], nextId := 1 }

/-- R171: the rate the levels of BAUD1 and BAUD0 choose. -/
def lineRate (baud1 baud0 : Bool) : LineRate :=
  match baud1, baud0 with
  | false, false => .r115200
  | false, true => .r460800
  | true, false => .r921600
  | true, true => .r2000000

/-- R187. `awaitHigh` stands: no high level has been seen on LRX yet (log 15). -/
def resetLink (baud1 baud0 : Bool) : Link :=
  { rate := lineRate baud1 baud0
    receiver := { state := .hunt, awaitHigh := true, gap := 0 }
    requests := [], dispatcher := .idle, replies := [], notices := [], transmitter := .idle
    framingErrors := 0, lengthErrors := 0, timeouts := 0, checkErrors := 0, overrunDrops := 0, noticesLost := 0 }

/-- DESIGN CHOICE (log 5): the pins as State.reset finds them, all low. -/
def resetPins : ResetPins :=
  { baud1 := false, baud0 := false, in0 := false, in1 := false }

/-- A part that has never saved a setup (R194). The contents stand for nothing: DESIGN CHOICE (log 14). -/
def blankImage : SetupImage :=
  { state := .neverWritten, generation := 0, contents := defaultSetup }

end Sys2Proof.Machine
end

