-- ==== Sys2Proof/Machine/State.lean ====
section
/-! DEFINITION. The state of the KJ416 as plain data, the reasons a step can stop, and the state right after a hard reset. -/

namespace Sys2Proof.Machine

/-- The whole state of the part, and the queue of commands that wait for it.
`startup`: start-up has not finished, with the cause of the hard reset (R199).
`lanes`: the lane vector of the frame last taken (R16). `lastTaken`: its number, none when no frame has been taken in the run (R128).
`events`: the pending event set, ids rising (R84).
`actionLevels`: the action level of each output, high is true (R106).
`workPins`: each output's pin level as the last taken frame's evaluation left it, before its actions (R107; log 24).
`pending`: commands waiting, first in, first out. -/
structure State where
  engine       : EngineState
  runNumber    : RunNumber
  setup        : Setup
  image        : SetupImage
  startup      : Option ResetCause
  iface        : FrameInterface
  lanes        : Vector Lane 16
  lastTaken    : Option FrameNumber
  measures     : Vector MeasureState 16
  conditions   : Vector ConditionState 32
  timers       : Vector TimerState 4
  events       : List EventId
  actionLevels : Vector Bool 4
  workPins     : Vector Bool 4
  inputs       : Vector InputState 2
  units        : Vector UnitState 4
  store        : Store
  link         : Link
  pending      : List Instr
  deriving DecidableEq, Repr

/-- The part has no fault state (R189: "The engine has no fault state"), and no command reaches an address outside the capture store: nothing raises a fault, which is safe. -/
inductive Fault where
  deriving DecidableEq, Repr

/-- Why a command has no meaning. -/
inductive Refusal where
  /-- Raised by an arm of `exec` for a row that has no meaning yet; safe: the model stops. No arm raises it. -/
  | notModelled (mnemonic : String)
  deriving DecidableEq, Repr

/-- The state after a hard reset begun by `cause`, with the levels `pins` at its end, the nonvolatile `image` as it was and the commands `queue` waiting: every block at its reset values, start-up begun (R199 step 1). -/
def State.afterReset (cause : ResetCause) (pins : ResetPins) (image : SetupImage) (queue : List Instr) : State :=
  { engine := .stopped
    runNumber := 0
    setup := Sys2Proof.Machine.defaultSetup
    image := image
    startup := some cause
    iface := resetInterface
    lanes := Vector.replicate 16 0
    lastTaken := none
    measures := Vector.replicate 16 clearedMeasure
    conditions := Vector.replicate 32 resetCondition
    timers := Vector.replicate 4 resetTimer
    events := []
    actionLevels := Vector.replicate 4 false
    workPins := Vector.replicate 4 false
    inputs := #v[resetInput pins.in0, resetInput pins.in1]
    units := Vector.replicate 4 clearedUnit
    store := resetStore
    link := resetLink pins.baud1 pins.baud0
    pending := queue }

/-- The machine right after power-on, start-up begun. The pins and the never-written image are DESIGN CHOICE (log 5). -/
def State.reset : State :=
  State.afterReset .power resetPins blankImage []

end Sys2Proof.Machine
end

