-- ==== Sys2Proof/Machine/Flags.lean ====
section
/-! DEFINITION. The computed flags and words: the flags byte of a capture, the condition word, the pin levels, lane presence. -/

namespace Sys2Proof.Machine

/-- One Boolean as a number. -/
def bit (b : Bool) : Nat := if b then 1 else 0

/-- R121: the flags as one byte, the sum of the values of the flags that are set. -/
def CaptureFlags.toByte (f : CaptureFlags) : Byte :=
  BitVec.ofNat 8 (0x01 * bit f.preGap + 0x02 * bit f.gapsOverflowed + 0x04 * bit f.interrupted + 0x08 * bit f.truncated
    + 0x10 * bit f.aborted + 0x20 * bit f.stopped + 0x40 * bit f.extended)

/-- The number whose bit i is the i-th Boolean of the list. -/
def wordOf : List Bool → Nat
  | [] => 0
  | b :: bs => bit b + 2 * wordOf bs

/-- R54: bit c is set exactly when condition Cc is ASSERTED. -/
def conditionWord (cs : Vector ConditionState 32) : BitVec 32 :=
  BitVec.ofNat 32 (wordOf ((List.finRange 32).map fun c => decide (cs[c].phase = .asserted)))

/-- R107: the logical level of an output, and the polarity applied to it. -/
def pinLevel (setup : OutputSetup) (action : Bool) (cs : Vector ConditionState 32) : Bool :=
  let logical := match setup.mode with
    | .actions => action
    | .condition => decide (cs[setup.condition].phase = .asserted)
  match setup.polarity with
  | .normal => logical
  | .inverted => !logical

/-- The level of output pin `o` as things stand (R107). -/
def State.pin (s : State) (o : Fin 4) : Bool :=
  pinLevel s.setup.outputs[o] s.actionLevels[o] s.conditions

/-- The bit clocks of a slot (R4). -/
def SlotPitch.bits : SlotPitch → Nat
  | .p16 => 16
  | .p24 => 24
  | .p32 => 32

/-- The bits of a sample (R4). -/
def SampleWidth.bits : SampleWidth → Nat
  | .w16 => 16
  | .w24 => 24

/-- R8: the bits a port needs in each frame. -/
def PortSetup.need (p : PortSetup) : Nat :=
  p.slots * p.pitch.bits + bit p.delay

/-- R7: a lane is PRESENT when its port is enabled and its slot number is less than the port's slot count. -/
def Setup.present (u : Setup) (l : Fin 16) : Bool :=
  if l.val < 8 then u.portA.enabled && decide (l.val < u.portA.slots)
  else u.portB.enabled && decide (l.val - 8 < u.portB.slots)

/-- R118: whether lane l is in the mask. -/
def inMask (mask : BitVec 16) (l : Fin 16) : Bool := mask.getLsbD l.val

/-- The lanes of a mask in lane-number order, lowest first (R119). -/
def maskLanes (mask : BitVec 16) : List (Fin 16) :=
  (List.finRange 16).filter (inMask mask)

/-- R119: the number n of selected lanes. -/
def laneCount (mask : BitVec 16) : Nat := (maskLanes mask).length

/-- R119: frames per page, 512 divided by n and rounded down. -/
def framesPerPage (mask : BitVec 16) : Nat := Config.pageWords / laneCount mask

/-- A divided by b and rounded up. -/
def ceilDiv (a b : Nat) : Nat := (a + b - 1) / b

/-- R119: the pages of a history ring of `pre` frames. -/
def ringPages (mask : BitVec 16) (pre : Nat) : Nat := ceilDiv pre (framesPerPage mask)

/-- R3, R2: the part drives SCK and FSY exactly when the working setup selects PROVIDER; otherwise they are inputs at high impedance. -/
def State.drivesClock (s : State) : Bool := decide (s.setup.interface.source = .provider)

/-- R3: in PROVIDER clocking SCK runs exactly while the interface is not OFF; in OFF both are held low. -/
def State.clockRuns (s : State) : Bool := s.drivesClock && decide (s.iface.state ≠ .off)

/-- R3: the level the part drives on SCK in PROVIDER clocking: low in OFF. -/
def State.sckPin (s : State) : Bool := s.clockRuns && s.iface.sckHigh

/-- R3: the level the part drives on FSY in PROVIDER clocking: low in OFF. It changes on the SCK edge opposite to SA's sampling edge: from there on it is the level that SA samples next, and over SA's own edge it stands. -/
def State.fsyPin (s : State) : Bool :=
  s.clockRuns &&
    (if s.iface.sckHigh = decide (s.setup.portA.edge = .rising) then s.iface.lastFsy else decide (s.iface.fsyPhase = 0))

/-- R107, R117: the lines of all six signal pins are not stored but computed: the four output levels. -/
def State.pins (s : State) : Vector Bool 4 := Vector.ofFn fun o => s.pin o

end Sys2Proof.Machine
end

