-- ==== Sys2Proof/Machine/Operands.lean ====
section
/-! DEFINITION. The operand forms of the link: how fields stand in payloads (least significant byte first, R186), how each request's fields are read with their ranges, and how setups and notices are laid out. -/

namespace Sys2Proof.Machine

/-- k bytes of n, least significant first (R186). -/
def leBytes : Nat → Nat → List Byte
  | 0, _ => []
  | k + 1, n => BitVec.ofNat 8 n :: leBytes k (n / 256)

/-- The number that bytes give, least significant first. -/
def leNat : List Byte → Nat
  | [] => 0
  | b :: bs => b.toNat + 256 * leNat bs

/-- A lane value travels as 3 bytes in two's complement (R186). -/
def laneBytes (v : Lane) : List Byte := leBytes 3 v.toNat

/-- A yes/no field: 0 no, 1 yes. -/
def yesNo (b : Bool) : Byte := BitVec.ofNat 8 (bit b)

/-- Read a yes/no field; any other value is out of range. -/
def readYesNo (b : Byte) : Option Bool :=
  if b = 0 then some false else if b = 1 then some true else none

/-- Read an index below n. -/
def readIndex (n : Nat) (b : Byte) : Option (Fin n) :=
  if h : b.toNat < n then some ⟨b.toNat, h⟩ else none

/-- A value kept only inside its range. -/
def within (lo hi v : Nat) : Option Nat :=
  if lo ≤ v ∧ v ≤ hi then some v else none

/-- The entry of a list of codes that a byte names. -/
def readCode {α : Type} (codes : List α) (b : Byte) : Option α := codes[b.toNat]?

/-! ### Codes of the enumerated fields, as their requests list them -/

def ClockEdge.codes : List ClockEdge := [.rising, .falling]
def BitOrder.codes : List BitOrder := [.msbFirst, .lsbFirst]
def ClockSource.codes : List ClockSource := [.follower, .provider]
def MeasureKind.codes : List MeasureKind := [.copy, .diff, .mag, .peak, .trough, .span, .mean, .meanprod]
def Test.codes : List Test := [.above, .below, .outside, .inside]
def TimerMode.codes : List TimerMode := [.oneShot, .repeating]
def Direction.codes : List Direction := [.down, .up]
def Action.codes : List Action :=
  [.condArm, .condDisarm, .condUnlatch, .timerStart, .timerStop, .timerResume, .unitArm, .unitTrigger, .unitAbort,
   .lineSet, .lineClear, .lineToggle, .notify]
def GuardKind.codes : List GuardKind := [.always, .whenAsserted, .whenNotAsserted]
def LineMode.codes : List LineMode := [.actions, .condition]
def Polarity.codes : List Polarity := [.normal, .inverted]
def Retrigger.codes : List Retrigger := [.ignore, .extend]
def FullPolicy.codes : List FullPolicy := [.truncate, .discard]
def IndexPolicy.codes : List IndexPolicy := [.keepOld, .replaceOld]
def IfaceState.codes : List IfaceState := [.off, .seeking, .receiving, .lost]
def CondPhase.codes : List CondPhase := [.disarmed, .watching, .asserted]
def TimerPhase.codes : List TimerPhase := [.idle, .running, .held]
def UnitPhase.codes : List UnitPhase := [.idle, .filling, .armed, .post]
def LowWater.codes : List LowWater := [.normal, .low]
def ImageState.codes : List ImageState := [.neverWritten, .valid, .invalid]
def EngineState.codes : List EngineState := [.stopped, .running]
def StreamFault.codes : List StreamFault := [.short, .overrun, .lost, .regained]
def DropReason.codes : List DropReason := [.storeFull, .indexFull, .replaced]
def ArmCause.codes : List ArmCause := [.action, .autoRearm, .armAtRun]
def ReadyCause.codes : List ReadyCause := [.power, .pin, .restart]
def SetupSource.codes : List SetupSource := [.stored, .defaultsEmpty, .defaultsInvalid]

/-- R179: the status codes 0x00 to 0x0B in order. -/
def Status.codes : List Status :=
  [.ok, .unknownKind, .badLength, .badIndex, .badValue, .state, .inUse, .noSpace, .notFound, .setupConflict,
   .overrun, .storeFailed]

/-- The code of an entry: its place in the list of codes. -/
def codeOf {α : Type} [DecidableEq α] (codes : List α) (x : α) : Byte :=
  BitVec.ofNat 8 (codes.idxOf x)

/-- Slot pitch travels as its number of bit clocks (R21). -/
def readPitch (b : Byte) : Option SlotPitch :=
  if b = 16 then some .p16 else if b = 24 then some .p24 else if b = 32 then some .p32 else none

/-- Sample width travels as its number of bits (R21). -/
def readWidth (b : Byte) : Option SampleWidth :=
  if b = 16 then some .w16 else if b = 24 then some .w24 else none

/-! ### Reading the fields of the SET requests -/

/-- R21: the seven fields of a port; the sample width must not exceed the slot pitch. -/
def readPort : List Byte → Option PortSetup
  | [en, sl, pi, wi, bo, de, ed] => do
    let enabled ← readYesNo en
    let slots ← within 1 8 sl.toNat
    let pitch ← readPitch pi
    let width ← readWidth wi
    let order ← readCode BitOrder.codes bo
    let delay ← readYesNo de
    let edge ← readCode ClockEdge.codes ed
    if width.bits ≤ pitch.bits then some { enabled, slots, pitch, width, order, delay, edge } else none
  | _ => none

/-- R21: the four fields of the interface; the divider must be even. -/
def readInterface : List Byte → Option InterfaceSetup
  | [sr, di, f0, f1, ms] => do
    let source ← readCode ClockSource.codes sr
    let divider ← within 2 64 di.toNat
    let frameLength ← within 32 512 (leNat [f0, f1])
    let syncLossMs ← within 1 255 ms.toNat
    if divider % 2 = 0 then some { source, divider, frameLength, syncLossMs } else none
  | _ => none

/-- R41: the fields of a measure after the index. -/
def readMeasure : List Byte → Option MeasureSetup
  | [en, ki, la, lb, w0, w1] => do
    let enabled ← readYesNo en
    let kind ← readCode MeasureKind.codes ki
    let laneA ← readIndex 16 la
    let laneB ← readIndex 16 lb
    let window ← within 1 4096 (leNat [w0, w1])
    some { enabled, kind, laneA, laneB, window }
  | _ => none

/-- R62, R45: the fields of a condition after the index. -/
def readCondition : List Byte → Option ConditionSetup
  | [me, te, u0, u1, u2, l0, l1, l2, h0, h1, qu, re, la, ar] => do
    let measure ← readIndex 16 me
    let test ← readCode Test.codes te
    let upper : Lane := BitVec.ofNat 24 (leNat [u0, u1, u2])
    let lower : Lane := BitVec.ofNat 24 (leNat [l0, l1, l2])
    let qualify ← within 1 255 qu.toNat
    let release ← within 1 255 re.toNat
    let latched ← readYesNo la
    let armAtRun ← readYesNo ar
    if (test = .outside ∨ test = .inside) ∧ upper.toInt < lower.toInt then none
    else some { measure, test, upper, lower, hysteresis := leNat [h0, h1], qualify, release, latched, armAtRun }
  | _ => none

/-- R77: the fields of a timer after the index. -/
def readTimer : List Byte → Option TimerSetup
  | [p0, p1, p2, mo, di, st] => do
    let period ← within 1 16777215 (leNat [p0, p1, p2])
    let mode ← readCode TimerMode.codes mo
    let direction ← readCode Direction.codes di
    let startAtRun ← readYesNo st
    some { period, mode, direction, startAtRun }
  | _ => none

/-- R91, R100: the largest target of each action. -/
def Action.maxTarget : Action → Nat
  | .condArm | .condDisarm | .condUnlatch => 31
  | .timerStart | .timerStop | .timerResume => 3
  | .unitArm | .unitTrigger | .unitAbort => 3
  | .lineSet | .lineClear | .lineToggle => 3
  | .notify => 255

/-- R100: the fields of a binding after the index. -/
def readBinding : List Byte → Option Binding
  | [en, so, ac, ta, gk, gc] => do
    let enabled ← readYesNo en
    let source ← readIndex 88 so
    let action ← readCode Action.codes ac
    let target ← within 0 action.maxTarget ta.toNat
    let guardKind ← readCode GuardKind.codes gk
    let guardCond ← readIndex 32 gc
    some { enabled, source, action, target, guardKind, guardCond }
  | _ => none

/-- R114: the fields of an output. -/
def readOutput : List Byte → Option OutputSetup
  | [mo, co, po] => do
    let mode ← readCode LineMode.codes mo
    let condition ← readIndex 32 co
    let polarity ← readCode Polarity.codes po
    some { mode, condition, polarity }
  | _ => none

/-- R142: the fields of a unit after the index. -/
def readUnit : List Byte → Option UnitSetup
  | [m0, m1, a0, a1, b0, b1, rt, fu, re, ar] => do
    let m ← within 1 65535 (leNat [m0, m1])
    let pre ← within 0 4095 (leNat [a0, a1])
    let post ← within 1 65535 (leNat [b0, b1])
    let retrigger ← readCode Retrigger.codes rt
    let full ← readCode FullPolicy.codes fu
    let autoRearm ← readYesNo re
    let armAtRun ← readYesNo ar
    some { mask := BitVec.ofNat 16 m, pre, post, retrigger, full, autoRearm, armAtRun }
  | _ => none

/-- R167: the store settings. -/
def readStore : List Byte → Option StoreSetup
  | [lw, po] => do
    let policy ← readCode IndexPolicy.codes po
    some { lowWater := lw.toNat, policy }
  | _ => none

/-! ### Laying out setups in the order and encoding of their SET requests, without the index (log 22) -/

def PortSetup.bytes (p : PortSetup) : List Byte :=
  [yesNo p.enabled, BitVec.ofNat 8 p.slots, BitVec.ofNat 8 p.pitch.bits, BitVec.ofNat 8 p.width.bits,
   codeOf BitOrder.codes p.order, yesNo p.delay, codeOf ClockEdge.codes p.edge]

def InterfaceSetup.bytes (i : InterfaceSetup) : List Byte :=
  [codeOf ClockSource.codes i.source, BitVec.ofNat 8 i.divider] ++ leBytes 2 i.frameLength ++ [BitVec.ofNat 8 i.syncLossMs]

def MeasureSetup.bytes (m : MeasureSetup) : List Byte :=
  [yesNo m.enabled, codeOf MeasureKind.codes m.kind, BitVec.ofNat 8 m.laneA.val, BitVec.ofNat 8 m.laneB.val]
    ++ leBytes 2 m.window

def ConditionSetup.bytes (c : ConditionSetup) : List Byte :=
  [BitVec.ofNat 8 c.measure.val, codeOf Test.codes c.test] ++ laneBytes c.upper ++ laneBytes c.lower
    ++ leBytes 2 c.hysteresis
    ++ [BitVec.ofNat 8 c.qualify, BitVec.ofNat 8 c.release, yesNo c.latched, yesNo c.armAtRun]

def TimerSetup.bytes (t : TimerSetup) : List Byte :=
  leBytes 3 t.period ++ [codeOf TimerMode.codes t.mode, codeOf Direction.codes t.direction, yesNo t.startAtRun]

def Binding.bytes (b : Binding) : List Byte :=
  [yesNo b.enabled, BitVec.ofNat 8 b.source.val, codeOf Action.codes b.action, BitVec.ofNat 8 b.target,
   codeOf GuardKind.codes b.guardKind, BitVec.ofNat 8 b.guardCond.val]

def OutputSetup.bytes (o : OutputSetup) : List Byte :=
  [codeOf LineMode.codes o.mode, BitVec.ofNat 8 o.condition.val, codeOf Polarity.codes o.polarity]

def UnitSetup.bytes (u : UnitSetup) : List Byte :=
  leBytes 2 u.mask.toNat ++ leBytes 2 u.pre ++ leBytes 2 u.post
    ++ [codeOf Retrigger.codes u.retrigger, codeOf FullPolicy.codes u.full, yesNo u.autoRearm, yesNo u.armAtRun]

def StoreSetup.bytes (t : StoreSetup) : List Byte :=
  [BitVec.ofNat 8 t.lowWater, codeOf IndexPolicy.codes t.policy]

/-- R190: the item kind and the index that a SETUP_CONFLICT names. -/
def Conflict.bytes : Conflict → List Byte
  | .saDisabled => [0, 0]
  | .measure m => [2, BitVec.ofNat 8 m.val]
  | .unit k => [3, BitVec.ofNat 8 k.val]

/-- R199: the auto-run byte and the conflict fields of READY. -/
def AutoRun.bytes : AutoRun → List Byte
  | .off => [0, 0, 0]
  | .started => [1, 0, 0]
  | .refused c => 2 :: c.bytes

/-! ### Notices and the message format -/

/-- The kind of a notice (R178). -/
def Notice.kind : Notice → Byte
  | .ready .. => 0x60
  | .event .. => 0x61
  | .streamFault .. => 0x62
  | .captureClosed .. => 0x63
  | .captureDropped .. => 0x64
  | .armFailed .. => 0x65

/-- The payload of a notice (R199, R98, R19, R186, R158, R123). -/
def Notice.payload : Notice → List Byte
  | .ready cause source generation autoRun run =>
    [codeOf ReadyCause.codes cause, codeOf SetupSource.codes source] ++ leBytes 4 generation.toNat ++ autoRun.bytes
      ++ leBytes 2 run.toNat
  | .event binding source run frame word =>
    [BitVec.ofNat 8 binding.val, BitVec.ofNat 8 source.val] ++ leBytes 2 run.toNat ++ leBytes 5 frame.toNat
      ++ leBytes 4 word.toNat
  | .streamFault fault shortA shortB run frame =>
    [codeOf StreamFault.codes fault, BitVec.ofNat 8 (bit shortA + 2 * bit shortB)] ++ leBytes 2 run.toNat
      ++ leBytes 5 frame.toNat
  | .captureClosed id unit run flags trigger pre post =>
    leBytes 2 id.toNat ++ [BitVec.ofNat 8 unit.val] ++ leBytes 2 run.toNat ++ [flags.toByte] ++ leBytes 5 trigger.toNat
      ++ leBytes 2 pre ++ leBytes 3 post
  | .captureDropped reason id unit run =>
    [codeOf DropReason.codes reason] ++ leBytes 2 id.toNat ++ [BitVec.ofNat 8 unit.val] ++ leBytes 2 run.toNat
  | .armFailed unit cause run frame needed free =>
    [BitVec.ofNat 8 unit.val, 0, codeOf ArmCause.codes cause] ++ leBytes 2 run.toNat ++ leBytes 5 frame.toNat
      ++ [BitVec.ofNat 8 needed] ++ leBytes 2 free

/-- R173: one shift of the remainder. -/
def crcShift (r : BitVec 16) : BitVec 16 :=
  if r.msb then (r <<< 1) ^^^ 0x1021#16 else r <<< 1

/-- R173: one byte taken into the remainder, most significant bit first. -/
def crcByte (r : BitVec 16) (b : Byte) : BitVec 16 :=
  crcShift (crcShift (crcShift (crcShift (crcShift (crcShift (crcShift (crcShift (r ^^^ (b.setWidth 16 <<< 8)))))))))

/-- R173: the check over the length byte and the body. -/
def check (bytes : List Byte) : BitVec 16 := bytes.foldl crcByte 0xFFFF#16

/-- R172: the bytes of a message on the line. -/
def wire (kind tag : Byte) (payload : List Byte) : List Byte :=
  let body := kind :: tag :: payload
  let counted := BitVec.ofNat 8 body.length :: body
  Config.startByte :: counted ++ leBytes 2 (check counted).toNat

/-- A reply on the line: its payload begins with the status (R172, R179). -/
def Reply.wire (r : Reply) : List Byte :=
  Sys2Proof.Machine.wire r.kind r.tag (codeOf Status.codes r.status :: r.data)

/-- A notice on the line: its tag is 0 (R172). -/
def Notice.wire (n : Notice) : List Byte :=
  Sys2Proof.Machine.wire n.kind 0 n.payload

/-! ### Bytes on the lines (R171) -/

/-- R171: the data bits of a byte as a line carries them, the least significant first. -/
def byteBits (b : Byte) : Vector Bool 8 := Vector.ofFn fun i => b.getLsbD i.val

/-- R171: the byte that the data bits of a byte time give. -/
def lrxValue (b : LrxByte) : Byte := BitVec.ofNat 8 (wordOf b.bits.toList)

/-- R171: the levels of a line over one byte, one for each bit time: start bit low, eight data bits, stop bit high. -/
def byteFrame (b : Byte) : List Bool := false :: (byteBits b).toList ++ [true]

/-- R171, R181: the levels of LTX over the message being sent, one for each bit time, byte after byte. -/
def Transmitter.levels : Transmitter → List Bool
  | .idle => []
  | .sendingReply bytes => bytes.flatMap byteFrame
  | .sendingNotice bytes => bytes.flatMap byteFrame

/-- R171, R187: the level of LTX, `bitTimes` whole bit times after the message being sent began. LTX rests high: between messages, when the transmitter is idle, and so from a hard reset on. -/
def State.ltx (s : State) (bitTimes : Nat) : Bool := s.link.transmitter.levels.getD bitTimes true

/-! ### Kinds of request (R178) -/

/-- R178: the request kinds, 0x01 to 0x09 and 0x10 to 0x2F. -/
def isRequestKind (k : Byte) : Bool :=
  (decide (0x01 ≤ k.toNat) && decide (k.toNat ≤ 0x09)) || (decide (0x10 ≤ k.toNat) && decide (k.toNat ≤ 0x2F))

/-- R178, R176: the kind of the reply to a message of kind `k`. -/
def replyKind (k : Byte) : Byte :=
  if k.toNat < 0x80 then k + 0x80 else 0xFF

end Sys2Proof.Machine
end

