-- ==== Sys2Proof/Machine/Ops.lean ====
section
/-! DEFINITION. The shared operations: tables, the words of the capture store, the pending event set, the link's queues, page claims and returns, and the service of one queued request. -/

namespace Sys2Proof.Machine

/-! ### Tables -/

/-- A table with entry k written. -/
def put {α : Type} {n : Nat} (v : Vector α n) (k : Fin n) (x : α) : Vector α n := v.set k.val x k.isLt

/-- The table whose entry k is `f k`. -/
def tab {α : Type} {n : Nat} (f : Fin n → α) : Vector α n := Vector.ofFn f

/-! ### The words of the capture store (R149; log 13) -/

/-- The word at an address. -/
def Memory.read : Memory → Nat → Lane
  | [], _ => Config.unlistedWord
  | (b, w) :: m, a => if a = b then w else Memory.read m a

/-- The words with the one at `a` written; the canonical form is kept. -/
def Memory.write : Memory → Nat → Lane → Memory
  | [], a, v => if v = Config.unlistedWord then [] else [(a, v)]
  | (b, w) :: m, a, v =>
    if a < b then (if v = Config.unlistedWord then (b, w) :: m else (a, v) :: (b, w) :: m)
    else if a = b then (if v = Config.unlistedWord then m else (a, v) :: m)
    else (b, w) :: Memory.write m a v

/-- The canonical form: addresses strictly rising, no entry equal to the unlisted word. -/
def Memory.wf : Memory → Bool
  | [] => true
  | (a, v) :: m => decide (v ≠ Config.unlistedWord) && m.all (fun c => decide (a < c.1)) && Memory.wf m

/-- Words written one after the other from address `a`. -/
def Memory.writeAll : Memory → Nat → List Lane → Memory
  | m, _, [] => m
  | m, a, v :: vs => Memory.writeAll (Memory.write m a v) (a + 1) vs

/-- The `n` words from address `a`. -/
def Memory.readAll (m : Memory) (a : Nat) : Nat → List Lane
  | 0 => []
  | n + 1 => Memory.read m a :: Memory.readAll m (a + 1) n

/-- R119: the address of frame position `pos` of a page, with n words a frame. -/
def frameAddress (pg : Page) (n pos : Nat) : Nat := pg.val * Config.pageWords + pos * n

/-! ### Event ids (R82) -/

def evAssert (c : Fin 32) : EventId := ⟨c.val, by omega⟩
def evRelease (c : Fin 32) : EventId := ⟨32 + c.val, by omega⟩
def evExpire (t : Fin 4) : EventId := ⟨64 + t.val, by omega⟩
def evTriggered (k : Fin 4) : EventId := ⟨68 + k.val, by omega⟩
def evClosed (k : Fin 4) : EventId := ⟨72 + k.val, by omega⟩
def evRise (i : Fin 2) : EventId := ⟨76 + 2 * i.val, by omega⟩
def evFall (i : Fin 2) : EventId := ⟨77 + 2 * i.val, by omega⟩
def evFrameLost : EventId := 80
def evSyncLost : EventId := 81
def evSyncRegained : EventId := 82
def evStoreLow : EventId := 83
def evSoft (n : Fin 4) : EventId := ⟨84 + n.val, by omega⟩

/-! ### The pending event set (R84, R85) -/

/-- A set of ids, kept rising, with one id added; an id already present merges (R84). -/
def insertId (x : EventId) : List EventId → List EventId
  | [] => [x]
  | y :: ys => if x.val < y.val then x :: y :: ys else if x = y then y :: ys else y :: insertId x ys

/-- The union of two sets of ids. -/
def unionIds (xs ys : List EventId) : List EventId := xs.foldr insertId ys

/-- R84, R85: an event enters the pending event set while the engine is RUNNING and is not collected while it is STOPPED. -/
def State.raise (id : EventId) (s : State) : State :=
  match s.engine with
  | .running => { s with events := insertId id s.events }
  | .stopped => s

/-! ### The transmitter and the queues it serves (R180 to R183) -/

/-- R182: the choice of the next message: the oldest reply, else the oldest notice, else idle. -/
def Link.choose (l : Link) : Link :=
  match l.replies, l.notices with
  | r :: _, _ => { l with transmitter := .sendingReply r.wire }
  | [], n :: _ => { l with transmitter := .sendingNotice n.wire }
  | [], [] => { l with transmitter := .idle }

/-- R182: an idle transmitter makes its choice at the moment a reply or a notice is placed. -/
def Link.kick (l : Link) : Link :=
  match l.transmitter with
  | .idle => l.choose
  | .sendingReply _ => l
  | .sendingNotice _ => l

/-- A reply placed at the end of the reply queue. -/
def Link.placeReply (r : Reply) (l : Link) : Link :=
  Link.kick { l with replies := l.replies ++ [r] }

/-- R183: a notice joins the queue, or is lost and counted when the queue holds sixteen. -/
def Link.offerNotice (n : Notice) (l : Link) : Link :=
  if l.notices.length < Config.noticePlaces then Link.kick { l with notices := l.notices ++ [n] }
  else { l with noticesLost := satInc l.noticesLost }

/-- R183: a block places a notice. -/
def State.notify (n : Notice) (s : State) : State := { s with link := s.link.offerNotice n }

/-! ### The dispatcher (R177 to R180) -/

/-- What a request's rule answers: a status and what follows it (R179). -/
structure Answer where
  status : Status
  data   : List Byte
  deriving DecidableEq, Repr

/-- The request was carried out. -/
def okay (data : List Byte) : Answer := { status := .ok, data := data }

/-- A refusal carries nothing after the status (R179). -/
def refusal (st : Status) : Answer := { status := st, data := [] }

/-- R177: the oldest request leaves the queue; the dispatcher begins the next one or returns to IDLE. -/
def Link.requestDone (l : Link) : Link :=
  { l with
    requests := l.requests.tail
    dispatcher := if l.requests.tail.isEmpty then .idle else .executing .begun }

/-- R180: a built reply is placed and its request removed, or the dispatcher holds it in EXECUTING while four replies wait. -/
def Link.settle (r : Reply) (l : Link) : Link :=
  if l.replies.length < Config.replyPlaces then (l.placeReply r).requestDone
  else { l with dispatcher := .executing (.holding r) }

/-- R178: the reply to a request: the kind of the request plus 0x80, and its tag. -/
def replyTo (q : Request) (a : Answer) : Reply :=
  { kind := replyKind q.kind, tag := q.tag, status := a.status, data := a.data }

/-- R178, R180: the reply to the oldest request is built and settled. -/
def State.answer (a : Answer) (s : State) : State :=
  match s.link.requests with
  | q :: _ => { s with link := s.link.settle (replyTo q a) }
  | [] => s

/-- The request the dispatcher may check and carry out now: start-up is over and the dispatcher has begun the oldest request (R177, R199). -/
def State.current (s : State) : Option Request :=
  if s.startup = none ∧ s.link.dispatcher = .executing .begun then s.link.requests.head? else none

/-- The oldest request handed to `f` when the dispatcher may carry it out and it is of a kind `is` accepts; otherwise the row has nothing to carry out (log 2, log 3). -/
def State.onRequest (is : Byte → Bool) (f : Request → State → State) (s : State) : State :=
  match s.current with
  | some q => if is q.kind then f q s else s
  | none => s

/-- One request carried out: `act` makes its checks and its effect, and the answer is settled (R177, R180). -/
def serve (kind : Byte) (act : List Byte → State → State × Answer) (s : State) : State :=
  s.onRequest (fun k => decide (k = kind)) fun q t => (act q.payload t).1.answer (act q.payload t).2

/-! ### Page claims and returns (R150 to R154) -/

/-- R153: LOW when the free count is below the mark, NORMAL when it is at or above it. -/
def lowState (free mark : Nat) : LowWater := if free < mark then .low else .normal

/-- R150, R153: a claim for k pages is granted whole or refused whole; a granted claim that takes the free count below the mark raises STORE_LOW.
Which free pages serve it is not observable: the first of the free list (log 12). -/
def State.claim (k : Nat) (s : State) : Option (List Page × State) :=
  if k ≤ s.store.free.length then
    let rest := s.store.free.drop k
    let t := { s with store := { s.store with free := rest, low := lowState rest.length s.setup.store.lowWater } }
    some (s.store.free.take k,
      if s.setup.store.lowWater ≤ s.store.free.length ∧ rest.length < s.setup.store.lowWater then t.raise evStoreLow else t)
  else none

/-- R151, R153: pages return to the free pool; no event. -/
def State.giveBack (pages : List Page) (s : State) : State :=
  { s with store :=
      { s.store with
        free := s.store.free ++ pages
        low := lowState (s.store.free ++ pages).length s.setup.store.lowWater } }

/-- R154: the low-water state set from the free count and the mark of the setup. -/
def State.markLow (s : State) : State :=
  { s with store := { s.store with low := lowState s.store.free.length s.setup.store.lowWater } }

end Sys2Proof.Machine
end

