-- ==== Sys2Proof/Machine/Lines.lean ====
section
/-! DEFINITION. The signal lines: the outputs' action levels, the input filters, and the requests that reach them (chapter 6). -/

namespace Sys2Proof.Machine

/-- The three operations on an action level, in the order of their codes (R108, R110). -/
inductive LineOp where
  | set
  | clear
  | toggle
  deriving DecidableEq, Repr

def LineOp.codes : List LineOp := [.set, .clear, .toggle]

/-- R108: the action level afterwards. -/
def lineOp (op : LineOp) (level : Bool) : Bool :=
  match op with
  | .set => true
  | .clear => false
  | .toggle => !level

/-- One operation on one output's action level (R108); no event, no notice. -/
def State.onLine (op : LineOp) (o : Fin 4) (s : State) : State :=
  { s with actionLevels := put s.actionLevels o (lineOp op s.actionLevels[o]) }

/-- R111: whether a measured time, in periods of the 24.576 MHz time base, has reached a filter time in microseconds. -/
def filterReached (time filter : Nat) : Bool := decide (filter * Config.periodsPerMs ≤ time * 1000)

/-- R111, R112: the new level is accepted; while RUNNING the RISE or FALL enters the pending event set. -/
def State.acceptInput (i : Fin 2) (s : State) : State :=
  let level := s.inputs[i].pin
  let t := { s with inputs := put s.inputs i { s.inputs[i] with filtered := level, hold := none } }
  t.raise (if level then evRise i else evFall i)

/-- R111, R113: a running hold measurement with `time` measured so far is accepted when it has reached the filter time, and otherwise runs on. -/
def State.measureHold (i : Fin 2) (time : Nat) (s : State) : State :=
  if filterReached time s.setup.filters[i] then s.acceptInput i
  else { s with inputs := put s.inputs i { s.inputs[i] with hold := some time } }

/-- R113: a changed filter time takes effect at once on a running hold measurement. -/
def State.refilter (i : Fin 2) (s : State) : State :=
  match s.inputs[i].hold with
  | none => s
  | some time => s.measureHold i time

/-- R111: the pin is sampled at `level`. A sample that differs from the filtered level starts the measurement at zero (and is accepted at once with filter time 0); one that equals it ends the measurement; one that still differs lets it run on. -/
def State.samplePin (i : Fin 2) (level : Bool) (s : State) : State :=
  let t := { s with inputs := put s.inputs i { s.inputs[i] with pin := level } }
  if level = s.inputs[i].filtered then { s with inputs := put s.inputs i { s.inputs[i] with pin := level, hold := none } }
  else match s.inputs[i].hold with
    | none => t.measureHold i 0
    | some _ => t

/-- R111: the pin holds its level for `periods` more samples. -/
def State.holdPin (i : Fin 2) (periods : Nat) (s : State) : State :=
  match s.inputs[i].hold with
  | none => s
  | some time => s.measureHold i (time + periods)

/-- R114: SET_LINE for an output; it takes effect on the pin at once. -/
def setOutput (o : Fin 4) (fields : List Byte) (s : State) : State × Answer :=
  if fields.length ≠ 3 then (s, refusal .badLength)
  else match readOutput fields with
    | none => (s, refusal .badValue)
    | some u =>
      let t := { s with setup := { s.setup with outputs := put s.setup.outputs o u } }
      (t, okay [yesNo (t.pin o)])

/-- R114, R113: SET_LINE for an input. -/
def setInput (i : Fin 2) (fields : List Byte) (s : State) : State × Answer :=
  match fields with
  | [f] =>
    let t := State.refilter i { s with setup := { s.setup with filters := put s.setup.filters i f.toNat } }
    (t, okay [yesNo t.inputs[i].filtered])
  | _ => (s, refusal .badLength)

/-- R114: SET_LINE: targets 0 to 3 are the outputs, 4 and 5 the inputs. -/
def setLine (payload : List Byte) (s : State) : State × Answer :=
  match payload with
  | [] => (s, refusal .badLength)
  | i :: fields =>
    match readIndex 4 i with
    | some o => setOutput o fields s
    | none =>
      match readIndex 2 (i - 4) with
      | some n => setInput n fields s
      | none => (s, refusal .badIndex)

/-- R115: the five bytes of an output. -/
def outputReport (o : Fin 4) (s : State) : List Byte :=
  s.setup.outputs[o].bytes ++ [yesNo s.actionLevels[o], yesNo (s.pin o)]

/-- R115: the three bytes of an input. -/
def inputReport (i : Fin 2) (s : State) : List Byte :=
  [BitVec.ofNat 8 s.setup.filters[i], yesNo s.inputs[i].filtered, yesNo s.inputs[i].pin]

/-- R115: GET_LINES. -/
def getLines (payload : List Byte) (s : State) : State × Answer :=
  match payload with
  | [] =>
    (s, okay (outputReport 0 s ++ outputReport 1 s ++ outputReport 2 s ++ outputReport 3 s
      ++ inputReport 0 s ++ inputReport 1 s))
  | _ => (s, refusal .badLength)

/-- R110: DRIVE_LINE, accepted in every engine state. -/
def driveLine (payload : List Byte) (s : State) : State × Answer :=
  match payload with
  | [i, p] =>
    match readIndex 4 i with
    | none => (s, refusal .badIndex)
    | some o =>
      match readCode LineOp.codes p with
      | none => (s, refusal .badValue)
      | some op =>
        (s.onLine op o, okay [yesNo (s.onLine op o).actionLevels[o], yesNo ((s.onLine op o).pin o)])
  | _ => (s, refusal .badLength)

/-- R114: SET_LINE, kind 0x21. -/
def execSetLine (s : State) : Host.Outcome State Fault Refusal := .next (serve 0x21 setLine s)

/-- R115: GET_LINES, kind 0x22. -/
def execGetLines (s : State) : Host.Outcome State Fault Refusal := .next (serve 0x22 getLines s)

/-- R110: DRIVE_LINE, kind 0x23. -/
def execDriveLine (s : State) : Host.Outcome State Fault Refusal := .next (serve 0x23 driveLine s)

/-- R111, R112: an input has held its level for `periods` more samples; it is accepted when the measured time reaches the filter time. -/
def execInputAccepted (input : Fin 2) (periods : Nat) (s : State) : Host.Outcome State Fault Refusal :=
  .next (s.holdPin input periods)

/-- R111: a sample of an input pin. -/
def execInputPinChange (input : Fin 2) (level : Bool) (s : State) : Host.Outcome State Fault Refusal :=
  .next (s.samplePin input level)

end Sys2Proof.Machine
end

