-- ==== Sys2Proof/Machine/Timers.lean ====
section
/-! DEFINITION. The frame timers T0 to T3: their operations, their advance at a frame boundary, and the requests that reach them (chapter 4). -/

namespace Sys2Proof.Machine

/-- R72: the count at which a full period begins. -/
def TimerSetup.startCount (u : TimerSetup) : Nat :=
  match u.direction with
  | .down => u.period
  | .up => 0

/-- R70: the count at which a period ends. -/
def TimerSetup.endCount (u : TimerSetup) : Nat :=
  match u.direction with
  | .down => 0
  | .up => u.period

/-- R72: START begins a full period from any state. -/
def timerStart (u : TimerSetup) (t : TimerState) : TimerState :=
  { t with phase := .running, count := u.startCount }

/-- R72: STOP holds a RUNNING timer with its count kept. -/
def timerStop (_u : TimerSetup) (t : TimerState) : TimerState :=
  match t.phase with
  | .running => { t with phase := .held }
  | .idle => t
  | .held => t

/-- R72: RESUME runs a HELD timer from its kept count. -/
def timerResume (_u : TimerSetup) (t : TimerState) : TimerState :=
  match t.phase with
  | .held => { t with phase := .running }
  | .idle => t
  | .running => t

/-- R70: the count moved by one in the timer's direction. -/
def timerMoved (u : TimerSetup) (t : TimerState) : Nat :=
  match u.direction with
  | .down => t.count - 1
  | .up => t.count + 1

/-- R70: whether the next advance of the timer is its expiry. -/
def timerDue (u : TimerSetup) (t : TimerState) : Bool :=
  match t.phase with
  | .running => decide (timerMoved u t = u.endCount)
  | .idle => false
  | .held => false

/-- R70, R71: the advance of one timer at a frame boundary, the expiry included. -/
def timerAdvance (u : TimerSetup) (t : TimerState) : TimerState :=
  match t.phase with
  | .idle => t
  | .held => t
  | .running =>
    if timerMoved u t = u.endCount then
      match u.mode with
      | .repeating => { t with count := u.startCount, expiries := satInc t.expiries }
      | .oneShot => { t with phase := .idle, count := u.endCount, expiries := satInc t.expiries }
    else { t with count := timerMoved u t }

/-- R69, R71: every RUNNING timer advances by one; each expiry places EXPIRE in the pending event set at once. -/
def State.advanceTimers (s : State) : State :=
  let due := (List.finRange 4).filter fun t => timerDue s.setup.timers[t] s.timers[t]
  due.foldl (fun a t => a.raise (evExpire t))
    { s with timers := tab fun t => timerAdvance s.setup.timers[t] s.timers[t] }

/-- One operation applied to one timer (R72). -/
def State.onTimer (op : TimerSetup → TimerState → TimerState) (t : Fin 4) (s : State) : State :=
  { s with timers := put s.timers t (op s.setup.timers[t] s.timers[t]) }

/-- R75: the state and the count of a timer, as a reply carries them. -/
def timerReport (t : TimerState) : List Byte := codeOf TimerPhase.codes t.phase :: leBytes 3 t.count

/-- R75: START_TIMER, STOP_TIMER and RESUME_TIMER with their checks in order. -/
def timerRequest (op : TimerSetup → TimerState → TimerState) (payload : List Byte) (s : State) : State × Answer :=
  match payload with
  | [i] =>
    match readIndex 4 i with
    | none => (s, refusal .badIndex)
    | some t =>
      match s.engine with
      | .stopped => (s, refusal .state)
      | .running => (s.onTimer op t, okay (timerReport (s.onTimer op t).timers[t]))
  | _ => (s, refusal .badLength)

/-- R77: SET_TIMER. -/
def setTimer (payload : List Byte) (s : State) : State × Answer :=
  match payload with
  | [] => (s, refusal .badLength)
  | i :: fields =>
    match readIndex 4 i with
    | none => (s, refusal .badIndex)
    | some t =>
      if fields.length ≠ 6 then (s, refusal .badLength)
      else if s.timers[t].phase ≠ .idle then (s, refusal .inUse)
      else match readTimer fields with
        | none => (s, refusal .badValue)
        | some u =>
          ({ s with
              setup := { s.setup with timers := put s.setup.timers t u }
              timers := put s.timers t { s.timers[t] with count := 0 } }, okay [])

/-- R78: GET_TIMER. -/
def getTimer (payload : List Byte) (s : State) : State × Answer :=
  match payload with
  | [i] =>
    match readIndex 4 i with
    | none => (s, refusal .badIndex)
    | some t =>
      (s, okay (s.setup.timers[t].bytes ++ timerReport s.timers[t] ++ leBytes 2 s.timers[t].expiries.toNat))
  | _ => (s, refusal .badLength)

/-- R77: SET_TIMER, kind 0x19. -/
def execSetTimer (s : State) : Host.Outcome State Fault Refusal := .next (serve 0x19 setTimer s)

/-- R78: GET_TIMER, kind 0x1A. -/
def execGetTimer (s : State) : Host.Outcome State Fault Refusal := .next (serve 0x1A getTimer s)

/-- R75: START_TIMER, kind 0x1B. -/
def execStartTimer (s : State) : Host.Outcome State Fault Refusal := .next (serve 0x1B (timerRequest timerStart) s)

/-- R75: STOP_TIMER, kind 0x1C. -/
def execStopTimer (s : State) : Host.Outcome State Fault Refusal := .next (serve 0x1C (timerRequest timerStop) s)

/-- R75: RESUME_TIMER, kind 0x1D. -/
def execResumeTimer (s : State) : Host.Outcome State Fault Refusal := .next (serve 0x1D (timerRequest timerResume) s)

end Sys2Proof.Machine
end

