-- ==== Sys2Proof/Machine/Stream.lean ====
section
/-! DEFINITION. The frame interface: sync edges, shift stages, frame boundaries, the holding stage, loss and return of sync, and the port requests (chapter 1). -/

namespace Sys2Proof.Machine

/-! ### Samples and lanes (R5, R6, R7) -/

/-- The number that bits give, the first one the most significant. -/
def msbValue : List Bool → Nat → Nat
  | [], acc => acc
  | b :: bs, acc => msbValue bs (2 * acc + bit b)

/-- R5: the bits of slot s that carry its sample: the first sample-width bits from bit number frame delay + s × pitch. -/
def slotBits (p : PortSetup) (bits : List Bool) (slot : Nat) : List Bool :=
  (bits.drop (bit p.delay + slot * p.pitch.bits)).take p.width.bits

/-- R6: the lane value of a sample; a 16-bit sample is multiplied by 256. -/
def sampleValue (p : PortSetup) (bits : List Bool) : Lane :=
  let n := match p.order with
    | .msbFirst => msbValue bits 0
    | .lsbFirst => msbValue bits.reverse 0
  BitVec.ofNat 24 (n * 2 ^ (24 - p.width.bits))

/-- The slot samples of a port's frame. -/
def slotSamples (p : PortSetup) (bits : List Bool) : List Lane :=
  if p.enabled then (List.range p.slots).map fun s => sampleValue p (slotBits p bits s) else []

/-- R7: each present lane takes the value of its slot's sample, each absent lane reads 0. -/
def laneVector (u : Setup) (f : HeldFrame) : Vector Lane 16 :=
  tab fun l =>
    if u.present l then
      (if l.val < 8 then f.slotsA.getD l.val 0 else f.slotsB.getD (l.val - 8) 0)
    else 0

/-! ### Frame boundaries (R13 to R15) -/

/-- R8: whether a port received fewer bits than it needs; a disabled port is never short. -/
def PortSetup.short (p : PortSetup) (bits : List Bool) : Bool :=
  p.enabled && decide (bits.length < p.need)

/-- R19: a stream fault queues its notice. -/
def State.streamFault (fault : StreamFault) (shortA shortB : Bool) (frame : FrameNumber) (s : State) : State :=
  s.notify (.streamFault fault shortA shortB s.runNumber frame)

/-- R13 step 3: the ended frame is short: discarded, counted, FRAME_LOST raised, a notice queued. -/
def State.shortFrame (s : State) : State :=
  ((State.raise evFrameLost { s with iface := { s.iface with shortFrames := satInc s.iface.shortFrames } })).streamFault
    .short (s.setup.portA.short s.iface.shiftA) (s.setup.portB.short s.iface.shiftB) s.iface.frameNumber

/-- R15: the ended frame is an overrun: discarded, counted, FRAME_LOST raised, a notice queued. -/
def State.overrunFrame (s : State) : State :=
  ((State.raise evFrameLost { s with iface := { s.iface with overruns := satInc s.iface.overruns } })).streamFault
    .overrun false false s.iface.frameNumber

/-- R13 step 5: the ended frame moves into the holding stage with its number. -/
def State.holdFrame (s : State) : State :=
  { s with iface :=
      { s.iface with
        holding := some
          { number := s.iface.frameNumber
            slotsA := slotSamples s.setup.portA s.iface.shiftA
            slotsB := slotSamples s.setup.portB s.iface.shiftB } } }

/-- R13 steps 3 to 5: what becomes of the frame just ended. -/
def State.endFrame (s : State) : State :=
  if s.setup.portA.short s.iface.shiftA || s.setup.portB.short s.iface.shiftB then s.shortFrame
  else match s.iface.holding with
    | some _ => s.overrunFrame
    | none => s.holdFrame

/-- R5, R11: the sync edge starts a frame: the shift stages are emptied and, in FOLLOWER clocking, the sync-loss measurement starts again. -/
def State.startFrame (s : State) : State :=
  { s with iface :=
      { s.iface with
        shiftA := []
        shiftB := []
        firstFsyDue := false
        syncTimer := match s.setup.interface.source with
          | .follower => some 0
          | .provider => none } }

/-- R13: a frame boundary: the frame number increases, the timers advance, the ended frame is stored or discarded, and the same edge starts the next frame. -/
def State.boundary (s : State) : State :=
  State.startFrame (State.endFrame (State.advanceTimers
    { s with iface := { s.iface with frameNumber := s.iface.frameNumber + 1 } }))

/-- R12: a sync edge in LOST: SYNC_REGAINED and its notice, no frame ended. -/
def State.regain (s : State) : State :=
  ((State.startFrame { s with iface := { s.iface with state := .receiving } }).raise evSyncRegained).streamFault
    .regained false false s.iface.frameNumber

/-- What a sync edge does, by the interface state (R10, R12, R13; R9 for the first FSY of a PROVIDER run). -/
def State.syncEdge (s : State) : State :=
  match s.iface.state with
  | .off => s
  | .seeking => State.startFrame { s with iface := { s.iface with state := .receiving } }
  | .lost => s.regain
  | .receiving => if s.iface.firstFsyDue then s.startFrame else s.boundary

/-! ### Sampling (R1, R3, R5) -/

/-- The level of FSY at an SA sampling edge: the front end's in FOLLOWER clocking; in PROVIDER clocking the part's own, high once every frame length of bit clocks (R3; log 9). The pin has had this level since the SCK edge before (State.fsyPin). -/
def State.fsyLevel (e : SckEdge) (s : State) : Bool :=
  match s.setup.interface.source with
  | .follower => e.fsy
  | .provider => decide (s.iface.fsyPhase = 0)

/-- R1: whether this sample of FSY makes the edge a sync edge: high after low, and in SEEKING and LOST only once FSY has been sampled low since that state was entered. -/
def isSyncEdge (fsy : Bool) (i : FrameInterface) : Bool :=
  fsy && !i.lastFsy &&
    match i.state with
    | .off => false
    | .seeking => i.fsyLow
    | .lost => i.fsyLow
    | .receiving => true

/-- The sample of FSY remembered, and the part's own FSY moved on by one bit clock (R1, R3). -/
def State.noteFsy (fsy : Bool) (s : State) : State :=
  { s with iface :=
      { s.iface with
        lastFsy := fsy
        fsyLow := s.iface.fsyLow || !fsy
        fsyPhase := (s.iface.fsyPhase + 1) % s.setup.interface.frameLength } }

/-- R1: frame sync is judged on the sampling edge of SA. -/
def State.judgeSync (e : SckEdge) (s : State) : State :=
  if e.edge = s.setup.portA.edge then
    let fsy := s.fsyLevel e
    if isSyncEdge fsy s.iface then (s.noteFsy fsy).syncEdge else s.noteFsy fsy
  else s

/-- R5: while a frame is in progress each enabled port takes in its data bit at its own sampling edge. -/
def State.shiftIn (e : SckEdge) (s : State) : State :=
  match s.iface.state with
  | .off => s
  | .seeking => s
  | .lost => s
  | .receiving =>
    if s.iface.firstFsyDue then s
    else
      { s with iface :=
          { s.iface with
            shiftA := if s.setup.portA.enabled ∧ e.edge = s.setup.portA.edge then s.iface.shiftA ++ [e.sda]
              else s.iface.shiftA
            shiftB := if s.setup.portB.enabled ∧ e.edge = s.setup.portB.edge then s.iface.shiftB ++ [e.sdb]
              else s.iface.shiftB } }

/-- The level of SCK after an edge (R3). -/
def State.noteSck (e : SckEdge) (s : State) : State :=
  { s with iface := { s.iface with sckHigh := decide (e.edge = .rising) } }

/-- One edge of SCK: FSY is judged first, then the data bits are taken in, so that bit 0 can be the bit sampled at the sync edge (R5). While OFF nothing is sampled (R1). -/
def State.clock (e : SckEdge) (s : State) : State :=
  match s.iface.state with
  | .off => s
  | .seeking => ((s.noteSck e).judgeSync e).shiftIn e
  | .receiving => ((s.noteSck e).judgeSync e).shiftIn e
  | .lost => ((s.noteSck e).judgeSync e).shiftIn e

/-- The edges of SCK, one after the other. -/
def State.clockAll (edges : List SckEdge) (s : State) : State := edges.foldl (fun a e => a.clock e) s

/-! ### Loss of sync (R11) -/

/-- R126: entering LOST sets INTERRUPTED on a unit in FILLING, ARMED or POST. -/
def UnitState.interrupt (u : UnitState) : UnitState :=
  match u.phase with
  | .idle => u
  | .filling => { u with flags := { u.flags with interrupted := true } }
  | .armed => { u with flags := { u.flags with interrupted := true } }
  | .post => { u with flags := { u.flags with interrupted := true } }

/-- R11: the interface enters LOST: the frame in progress is abandoned, the loss counted, SYNC_LOST raised, a notice queued; the units learn of it directly (R126). The holding stage is not touched. -/
def State.loseSync (s : State) : State :=
  (State.raise evSyncLost
    { s with
      iface :=
        { s.iface with
          state := .lost
          shiftA := []
          shiftB := []
          fsyLow := false
          syncTimer := none
          syncLosses := satInc s.iface.syncLosses }
      units := tab fun k => s.units[k].interrupt }).streamFault .lost false false s.iface.frameNumber

/-- R11: time without a sync edge: the measurement runs on, and the interface enters LOST when it reaches the sync-loss time. -/
def State.quiet (periods : Nat) (s : State) : State :=
  match s.iface.syncTimer with
  | none => s
  | some t =>
    if s.setup.interface.syncLossMs * Config.periodsPerMs ≤ t + periods then s.loseSync
    else { s with iface := { s.iface with syncTimer := some (t + periods) } }

/-! ### Requests -/

/-- R8, R21: the PROVIDER check of a setup: the need of each enabled port must not exceed the frame length. -/
def Setup.providerFits (u : Setup) : Bool :=
  match u.interface.source with
  | .follower => true
  | .provider =>
    (!u.portA.enabled || decide (u.portA.need ≤ u.interface.frameLength))
      && (!u.portB.enabled || decide (u.portB.need ≤ u.interface.frameLength))

/-- R21 steps 4 to 6, for the setup as it would stand after the request. -/
def writePorts (setup : Option Setup) (s : State) : State × Answer :=
  if s.engine ≠ .stopped then (s, refusal .state)
  else match setup with
    | none => (s, refusal .badValue)
    | some u => if u.providerFits then ({ s with setup := u }, okay []) else (s, refusal .setupConflict)

/-- R21: SET_PORT. -/
def setPort (payload : List Byte) (s : State) : State × Answer :=
  match payload with
  | [] => (s, refusal .badLength)
  | i :: fields =>
    match readIndex 3 i with
    | none => (s, refusal .badIndex)
    | some 0 =>
      if fields.length ≠ 7 then (s, refusal .badLength)
      else writePorts ((readPort fields).map fun p => { s.setup with portA := p }) s
    | some 1 =>
      if fields.length ≠ 7 then (s, refusal .badLength)
      else writePorts ((readPort fields).map fun p => { s.setup with portB := p }) s
    | some 2 =>
      if fields.length ≠ 5 then (s, refusal .badLength)
      else writePorts ((readInterface fields).map fun n => { s.setup with interface := n }) s

/-- R22: the interface part of the reply, the same whichever target is named. -/
def interfaceReport (i : FrameInterface) : List Byte :=
  [codeOf IfaceState.codes i.state, yesNo i.holding.isSome] ++ leBytes 5 i.frameNumber.toNat
    ++ leBytes 2 i.shortFrames.toNat ++ leBytes 2 i.overruns.toNat ++ leBytes 2 i.syncLosses.toNat

/-- R22: the setup fields of a target: 0 SA, 1 SB, 2 the interface. -/
def portFields (target : Fin 3) (u : Setup) : List Byte :=
  match target with
  | 0 => u.portA.bytes
  | 1 => u.portB.bytes
  | 2 => u.interface.bytes

/-- R22: GET_PORT. -/
def getPort (payload : List Byte) (s : State) : State × Answer :=
  match payload with
  | [i] =>
    match readIndex 3 i with
    | none => (s, refusal .badIndex)
    | some t => (s, okay (portFields t s.setup ++ interfaceReport s.iface))
  | _ => (s, refusal .badLength)

/-- R21: SET_PORT, kind 0x10. -/
def execSetPort (s : State) : Host.Outcome State Fault Refusal := .next (serve 0x10 setPort s)

/-- R22: GET_PORT, kind 0x11. -/
def execGetPort (s : State) : Host.Outcome State Fault Refusal := .next (serve 0x11 getPort s)

/-! ### The stream commands. Each carries the SCK edges from where the last one left off; it acts in the interface state in which its event can occur (log 2, log 8). -/

/-- R69: whether the next sync edge is the first of the run: SEEKING, or a PROVIDER run whose first FSY has not come. -/
def State.awaitsFirstSync (s : State) : Bool :=
  match s.iface.state with
  | .off => false
  | .seeking => true
  | .receiving => s.iface.firstFsyDue
  | .lost => false

/-- R10, R9: the first sync edge of the run. -/
def execFirstSyncEdge (edges : List SckEdge) (s : State) : Host.Outcome State Fault Refusal :=
  .next (if s.awaitsFirstSync then s.clockAll edges else s)

/-- R13: the edges of a frame, ended by the sync edge that is its boundary. -/
def execFrameBoundary (edges : List SckEdge) (s : State) : Host.Outcome State Fault Refusal :=
  .next (if s.iface.state = .receiving then s.clockAll edges else s)

/-- R70, R71: the frame boundary at which the count of a timer reaches its end; the expiry is part of that boundary (log 6). -/
def execTimerExpire (timer : Fin 4) (edges : List SckEdge) (s : State) : Host.Outcome State Fault Refusal :=
  .next (if s.iface.state = .receiving ∧ timerDue s.setup.timers[timer] s.timers[timer] then s.clockAll edges else s)

/-- R11: `periods` more pass without a sync edge. -/
def execSyncLost (periods : Nat) (s : State) : Host.Outcome State Fault Refusal :=
  .next (s.quiet periods)

/-- R12: the sync edge that returns a LOST interface to RECEIVING. -/
def execSyncRegained (edges : List SckEdge) (s : State) : Host.Outcome State Fault Refusal :=
  .next (if s.iface.state = .lost then s.clockAll edges else s)

end Sys2Proof.Machine
end

