-- ==== Sys2Proof/Machine/Store.lean ====
section
/-! DEFINITION. The capture index: ids, the handover of a closed capture, readout, release, and the requests that reach the store (chapter 8). -/

namespace Sys2Proof.Machine

/-- The record of the index with a capture id (R155). -/
def findRecord (id : CaptureId) (index : List CaptureRecord) : Option CaptureRecord :=
  index.find? fun r => r.id == id

/-- R157: the first value, counting upward from `id` and wrapping from 65535 to 1, that no record of the index has; `fuel` values are tried. -/
def freshId (index : List CaptureRecord) : Nat → CaptureId → CaptureId
  | 0, id => id
  | fuel + 1, id => if index.any (fun r => r.id == id) then freshId index fuel (nextFromOne id) else id

/-- R157: the id the next closed capture is given; the search ends within 33 values. -/
def Store.assigned (t : Store) : CaptureId := freshId t.index (Config.indexPlaces + 1) t.nextId

/-- R156: the oldest record that is not held. -/
def oldestUnheld (index : List CaptureRecord) : Option CaptureRecord := index.find? fun r => !r.held

/-- R156: a record appended at the end of the index. -/
def State.appendRecord (r : CaptureRecord) (s : State) : State :=
  { s with store := { s.store with index := s.store.index ++ [r] } }

/-- A record taken out of the index, those behind it closing up, its pages returned to the store (R151, R155). -/
def State.removeRecord (r : CaptureRecord) (s : State) : State :=
  State.giveBack r.pages { s with store := { s.store with index := s.store.index.erase r } }

/-- R156: a closed capture that the index drops: its pages are returned and CAPTURE_DROPPED tells of it. -/
def State.dropCapture (r : CaptureRecord) (s : State) : State :=
  (s.giveBack r.pages).notify (.captureDropped .indexFull r.id r.unit s.runNumber)

/-- R156: the record the index keeps, given its id already: the outcome by the number of records and the policy. True when the capture is kept. -/
def State.keepOrDrop (r : CaptureRecord) (s : State) : State × Bool :=
  if s.store.index.length < Config.indexPlaces then (s.appendRecord r, true)
  else match s.setup.store.policy with
    | .keepOld => (s.dropCapture r, false)
    | .replaceOld =>
      match oldestUnheld s.store.index with
      | some old =>
        (((s.removeRecord old).notify (.captureDropped .replaced old.id old.unit old.run)).appendRecord r, true)
      | none => (s.dropCapture r, false)

/-- R156, R157: the handover: the id is assigned first, and consumed whether the capture is kept or dropped. -/
def State.handOver (r : CaptureRecord) (s : State) : State × Bool × CaptureId :=
  let id := s.store.assigned
  let out := State.keepOrDrop { r with id := id } { s with store := { s.store with nextId := nextFromOne id } }
  (out.1, out.2, id)

/-! ### Readout (R139, R160) -/

/-- R155: the frames a record holds. -/
def CaptureRecord.frames (r : CaptureRecord) : Nat := r.preCount + r.postCount

/-- R139: the ring place of pre offset k, counted `preCount` places back from the ring head and wrapping. -/
def CaptureRecord.ringPlace (r : CaptureRecord) (k : Nat) : Nat :=
  (r.ringHead + r.pre - r.preCount + k) % r.pre

/-- R160: the page of the record and the frame position in it where offset k lies. -/
def CaptureRecord.locate (r : CaptureRecord) (k : Nat) : Nat × Nat :=
  let fpp := framesPerPage r.mask
  if k < r.preCount then (r.ringPlace k / fpp, r.ringPlace k % fpp)
  else (ringPages r.mask r.pre + (k - r.preCount) / fpp, (k - r.preCount) % fpp)

/-- R160: the lane values of the frame at offset k, in lane-number order. -/
def Store.frameAt (t : Store) (r : CaptureRecord) (k : Nat) : List Lane :=
  match r.pages[(r.locate k).1]? with
  | some pg =>
    Memory.readAll t.mem (frameAddress pg (laneCount r.mask) (r.locate k).2) (laneCount r.mask)
  | none => []

/-- R163: the number of frames returned. -/
def readCount (r : CaptureRecord) (offset count : Nat) : Nat :=
  let fits := Config.readBytes / (3 * laneCount r.mask)
  let left := r.frames - offset
  min (if count = 0 then left else count) (min fits left)

/-- R163: the frames from `offset` on, each as its lane values of 3 bytes. -/
def Store.frameBytes (t : Store) (r : CaptureRecord) (offset : Nat) : Nat → List Byte
  | 0 => []
  | n + 1 => ((t.frameAt r offset).flatMap laneBytes) ++ t.frameBytes r (offset + 1) n

/-! ### Requests -/

/-- R161: LIST_CAPTURES. -/
def listCaptures (payload : List Byte) (s : State) : State × Answer :=
  match payload with
  | [] =>
    (s, okay (BitVec.ofNat 8 s.store.index.length
      :: s.store.index.flatMap fun r => leBytes 2 r.id.toNat ++ [yesNo r.held]))
  | _ => (s, refusal .badLength)

/-- R162, R186: the summary of a record. -/
def CaptureRecord.summary (r : CaptureRecord) : List Byte :=
  leBytes 2 r.id.toNat ++ [BitVec.ofNat 8 r.unit.val] ++ leBytes 2 r.run.toNat ++ leBytes 2 r.mask.toNat
    ++ leBytes 5 r.firstFrame.toNat ++ leBytes 5 r.triggerFrame.toNat ++ leBytes 2 r.preCount ++ leBytes 3 r.postCount
    ++ [r.flags.toByte, r.triggerSource] ++ leBytes 4 r.triggerWord.toNat
    ++ [r.extensions, r.extraTriggers, yesNo r.held] ++ leBytes 2 r.pages.length
    ++ BitVec.ofNat 8 r.gaps.length :: r.gaps.flatMap fun g => leBytes 3 g.offset ++ leBytes 4 g.missing

/-- The capture id that two bytes name. -/
def readId (b0 b1 : Byte) : CaptureId := BitVec.ofNat 16 (leNat [b0, b1])

/-- R162: GET_CAPTURE. -/
def getCapture (payload : List Byte) (s : State) : State × Answer :=
  match payload with
  | [b0, b1] =>
    match findRecord (readId b0 b1) s.store.index with
    | some r => (s, okay r.summary)
    | none => (s, refusal .notFound)
  | _ => (s, refusal .badLength)

/-- R163: READ_FRAMES. -/
def readFrames (payload : List Byte) (s : State) : State × Answer :=
  match payload with
  | [b0, b1, o0, o1, o2, n] =>
    match findRecord (readId b0 b1) s.store.index with
    | none => (s, refusal .notFound)
    | some r =>
      let offset := leNat [o0, o1, o2]
      if r.frames ≤ offset then (s, refusal .badValue)
      else
        let m := readCount r offset n.toNat
        (s, okay (leBytes 2 r.id.toNat ++ leBytes 3 offset ++ [BitVec.ofNat 8 m] ++ s.store.frameBytes r offset m))
  | _ => (s, refusal .badLength)

/-- The index with the held mark of one record written (R164). -/
def markHeld (id : CaptureId) (mark : Bool) (index : List CaptureRecord) : List CaptureRecord :=
  index.map fun r => if r.id == id then { r with held := mark } else r

/-- R164: HOLD_CAPTURE. -/
def holdCapture (payload : List Byte) (s : State) : State × Answer :=
  match payload with
  | [b0, b1, m] =>
    match findRecord (readId b0 b1) s.store.index with
    | none => (s, refusal .notFound)
    | some r =>
      match readYesNo m with
      | none => (s, refusal .badValue)
      | some mark =>
        ({ s with store := { s.store with index := markHeld r.id mark s.store.index } }, okay [yesNo mark])
  | _ => (s, refusal .badLength)

/-- R165: RELEASE_CAPTURE. -/
def releaseCapture (payload : List Byte) (s : State) : State × Answer :=
  match payload with
  | [b0, b1] =>
    match findRecord (readId b0 b1) s.store.index with
    | none => (s, refusal .notFound)
    | some r =>
      (s.removeRecord r, okay (leBytes 2 r.pages.length ++ leBytes 2 (s.removeRecord r).store.free.length))
  | _ => (s, refusal .badLength)

/-- R167, R154: SET_STORE. -/
def setStore (payload : List Byte) (s : State) : State × Answer :=
  if payload.length ≠ 2 then (s, refusal .badLength)
  else match readStore payload with
    | none => (s, refusal .badValue)
    | some u =>
      let t := State.markLow { s with setup := { s.setup with store := u } }
      (t, okay [codeOf LowWater.codes t.store.low])

/-- The pages a unit holds, pre and post together (R120). -/
def UnitState.pages (u : UnitState) : List Page := u.prePages ++ u.postPages

/-- R168: the pages held by capture units. -/
def State.unitPages (s : State) : List Page := s.units.toList.flatMap UnitState.pages

/-- R168: the pages held by index records. -/
def State.recordPages (s : State) : List Page := s.store.index.flatMap CaptureRecord.pages

/-- R168: GET_STORE. -/
def getStore (payload : List Byte) (s : State) : State × Answer :=
  match payload with
  | [] =>
    (s, okay (s.setup.store.bytes ++ [codeOf LowWater.codes s.store.low] ++ leBytes 2 s.store.free.length
      ++ leBytes 2 s.unitPages.length ++ leBytes 2 s.recordPages.length
      ++ [BitVec.ofNat 8 s.store.index.length, BitVec.ofNat 8 (s.store.index.filter CaptureRecord.held).length]
      ++ leBytes 2 s.store.nextId.toNat))
  | _ => (s, refusal .badLength)

/-- R161: LIST_CAPTURES, kind 0x29. -/
def execListCaptures (s : State) : Host.Outcome State Fault Refusal := .next (serve 0x29 listCaptures s)

/-- R162: GET_CAPTURE, kind 0x2A. -/
def execGetCapture (s : State) : Host.Outcome State Fault Refusal := .next (serve 0x2A getCapture s)

/-- R163: READ_FRAMES, kind 0x2B. -/
def execReadFrames (s : State) : Host.Outcome State Fault Refusal := .next (serve 0x2B readFrames s)

/-- R164: HOLD_CAPTURE, kind 0x2C. -/
def execHoldCapture (s : State) : Host.Outcome State Fault Refusal := .next (serve 0x2C holdCapture s)

/-- R165: RELEASE_CAPTURE, kind 0x2D. -/
def execReleaseCapture (s : State) : Host.Outcome State Fault Refusal := .next (serve 0x2D releaseCapture s)

/-- R167: SET_STORE, kind 0x2E. -/
def execSetStore (s : State) : Host.Outcome State Fault Refusal := .next (serve 0x2E setStore s)

/-- R168: GET_STORE, kind 0x2F. -/
def execGetStore (s : State) : Host.Outcome State Fault Refusal := .next (serve 0x2F getStore s)

end Sys2Proof.Machine
end

