-- ==== Sys2Proof/Machine/Units.lean ====
section
/-! DEFINITION. The capture units K0 to K3: arming, the history ring, triggering, the post part, aborting, closing, and the requests that reach them (chapter 7). -/

namespace Sys2Proof.Machine

/-- A unit's state written. -/
def State.setUnitState (k : Fin 4) (u : UnitState) (s : State) : State :=
  { s with units := put s.units k u }

/-- R119: the values a unit stores of a frame: its selected lanes in lane-number order. -/
def selectedLanes (mask : BitVec 16) (lanes : Vector Lane 16) : List Lane :=
  (maskLanes mask).map fun l => lanes[l]

/-- One frame written at a frame position of a page (R119). -/
def State.writeFrame (pg : Page) (pos : Nat) (mask : BitVec 16) (s : State) : State :=
  { s with store :=
      { s.store with
        mem := Memory.writeAll s.store.mem (frameAddress pg (laneCount mask) pos) (selectedLanes mask s.lanes) } }

/-! ### Arming (R122 to R124) -/

/-- R122: a unit armed with its ring pages. -/
def armedUnit (u : UnitSetup) (pages : List Page) : UnitState :=
  { clearedUnit with phase := if u.pre = 0 then .armed else .filling, prePages := pages }

/-- R122, R123: ARM on an IDLE unit: the claim of its ring; none when the store refuses it. -/
def State.tryArm (k : Fin 4) (s : State) : Option State :=
  match s.claim (ringPages s.setup.units[k].mask s.setup.units[k].pre) with
  | some (pages, t) => some (t.setUnitState k (armedUnit s.setup.units[k] pages))
  | none => none

/-- R122, R123: ARM on an IDLE unit from a source other than a request: a refusal queues ARM_FAILED. -/
def State.armOrReport (k : Fin 4) (cause : ArmCause) (frame : FrameNumber) (s : State) : State :=
  match s.tryArm k with
  | some t => t
  | none =>
    s.notify (.armFailed k cause s.runNumber frame (ringPages s.setup.units[k].mask s.setup.units[k].pre)
      s.store.free.length)

/-- R124: ARM has no effect on a unit that is not IDLE. -/
def State.armUnitBy (k : Fin 4) (cause : ArmCause) (frame : FrameNumber) (s : State) : State :=
  match s.units[k].phase with
  | .idle => s.armOrReport k cause frame
  | .filling => s
  | .armed => s
  | .post => s

/-! ### Triggering (R127 to R129) -/

/-- R139: the ring place of the oldest history frame, `historyCount` places back from the ring head. -/
def oldestPlace (pre : Nat) (u : UnitState) : Nat := (u.ringHead + pre - u.historyCount) % pre

/-- R127: the unit enters POST. `frame` is the trigger frame number when it is known (R128). -/
def triggered (setup : UnitSetup) (source : Byte) (word : BitVec 32) (frame : Option FrameNumber) (u : UnitState) :
    UnitState :=
  { u with
    phase := .post
    preCount := u.historyCount
    postCount := 0
    remaining := setup.post
    triggerFrame := frame
    triggerSource := source
    triggerWord := word
    firstFrame := if 0 < u.historyCount then u.ringFrames[oldestPlace setup.pre u]? else frame }

/-- R129: a TRIGGER in POST. -/
def retriggered (setup : UnitSetup) (u : UnitState) : UnitState :=
  match setup.retrigger with
  | .ignore => { u with extraTriggers := satInc u.extraTriggers }
  | .extend =>
    { u with remaining := setup.post, extensions := satInc u.extensions, flags := { u.flags with extended := true } }

/-- R127, R129: TRIGGER on a unit, by its state. -/
def State.triggerUnitBy (k : Fin 4) (source : Byte) (word : BitVec 32) (frame : Option FrameNumber) (s : State) : State :=
  match s.units[k].phase with
  | .idle => s
  | .filling =>
    (s.setUnitState k (triggered s.setup.units[k] source word frame s.units[k])).raise (evTriggered k)
  | .armed =>
    (s.setUnitState k (triggered s.setup.units[k] source word frame s.units[k])).raise (evTriggered k)
  | .post => s.setUnitState k (retriggered s.setup.units[k] s.units[k])

/-- R128: at the next take the trigger frame number of a capture triggered by request is set, and the first frame number with it when the pre count is 0. -/
def UnitState.fixTrigger (frame : FrameNumber) (u : UnitState) : UnitState :=
  match u.phase, u.triggerFrame with
  | .post, none => { u with triggerFrame := some frame, firstFrame := if u.preCount = 0 then some frame else u.firstFrame }
  | .post, some _ => u
  | .idle, _ => u
  | .filling, _ => u
  | .armed, _ => u

/-- R128: the trigger frame number of a capture that closes before any frame is taken: one more than the last frame taken in the run, or 1. -/
def State.untakenTrigger (s : State) : FrameNumber :=
  match s.lastTaken with
  | some f => f + 1
  | none => 1

/-! ### Closing (R138 to R141) -/

/-- R138 step 1: the capture record of a unit's working record; the index assigns the id. -/
def captureRecord (k : Fin 4) (s : State) : CaptureRecord :=
  let u := s.units[k]
  let trigger := u.triggerFrame.getD s.untakenTrigger
  { id := 0, unit := k, run := s.runNumber, mask := s.setup.units[k].mask
    firstFrame := u.firstFrame.getD trigger, triggerFrame := trigger
    preCount := u.preCount, postCount := u.postCount, flags := u.flags
    triggerSource := u.triggerSource, triggerWord := u.triggerWord
    extensions := u.extensions, extraTriggers := u.extraTriggers, gaps := u.gaps
    held := false, pages := u.pages, ringHead := u.ringHead, pre := s.setup.units[k].pre }

/-- R138: a close: the record is formed and handed over, CLOSED is placed, CAPTURE_CLOSED is queued if the index kept it, and the unit goes to IDLE with its working record cleared. The unit holds no pages from the handover on. -/
def State.closeCapture (k : Fin 4) (s : State) : State :=
  let r := captureRecord k s
  let out := (s.setUnitState k clearedUnit).handOver r
  let t := out.1.raise (evClosed k)
  if out.2.1 then
    t.notify (.captureClosed out.2.2 k r.run r.flags r.triggerFrame r.preCount r.postCount)
  else t

/-- R133: a capture dropped by DISCARD: its pages returned, CAPTURE_DROPPED queued, CLOSED placed, the unit IDLE. -/
def State.discardCapture (k : Fin 4) (s : State) : State :=
  (((s.setUnitState k clearedUnit).giveBack s.units[k].pages).notify
    (.captureDropped .storeFull 0 k s.runNumber)).raise (evClosed k)

/-- R141: a unit with auto-rearm arms itself again at the end of a close or of a DISCARD drop. -/
def State.rearm (k : Fin 4) (frame : FrameNumber) (s : State) : State :=
  if s.setup.units[k].autoRearm then s.armUnitBy k .autoRearm frame else s

/-- A flag of close cause set in a unit's working record (R121). -/
def State.flagUnit (k : Fin 4) (f : CaptureFlags → CaptureFlags) (s : State) : State :=
  s.setUnitState k { s.units[k] with flags := f s.units[k].flags }

/-- R134: ABORT on an armed unit: its pre pages returned, IDLE, the working record cleared. -/
def State.giveUp (k : Fin 4) (s : State) : State :=
  (s.setUnitState k clearedUnit).giveBack s.units[k].prePages

/-- R134, R135: ABORT, by the unit's state. -/
def State.abortUnitBy (k : Fin 4) (s : State) : State :=
  match s.units[k].phase with
  | .idle => s
  | .filling => s.giveUp k
  | .armed => s.giveUp k
  | .post => (s.flagUnit k fun f => { f with aborted := true }).closeCapture k

/-- R147: the stop effect on one unit. -/
def State.stopUnit (k : Fin 4) (s : State) : State :=
  match s.units[k].phase with
  | .idle => s
  | .filling => s.giveUp k
  | .armed => s.giveUp k
  | .post => (s.flagUnit k fun f => { f with stopped := true }).closeCapture k

/-! ### Handling a taken frame (R125, R126, R130 to R133) -/

/-- Whether frame `f` does not directly follow the last stored frame, modulo 2^40 (R126, R131). -/
def gapBefore (f : FrameNumber) (last : Option FrameNumber) : Bool :=
  match last with
  | none => false
  | some l => decide (f ≠ l + 1)

/-- R131: the missing count, held up to 4294967295. -/
def missingCount (f : FrameNumber) (last : Option FrameNumber) : Nat :=
  match last with
  | none => 0
  | some l => min (f - l - 1).toNat 4294967295

/-- R131: the gap check of a frame stored in POST. -/
def noteGap (f : FrameNumber) (u : UnitState) : UnitState :=
  if gapBefore f u.lastStored then
    if u.gaps.length < Config.gapPlaces then
      { u with gaps := u.gaps ++ [{ offset := u.preCount + u.postCount, missing := missingCount f u.lastStored }] }
    else { u with flags := { u.flags with gapsOverflowed := true } }
  else u

/-- R125: the frame numbers of the ring with place p written. -/
def ringWrite (p : Nat) (f : FrameNumber) (ring : List FrameNumber) : List FrameNumber :=
  if p < ring.length then ring.set p f else ring ++ [f]

/-- R125 steps 1 and 3 to 5, R126: the working record after a history frame. -/
def historyUnit (pre : Nat) (f : FrameNumber) (u : UnitState) : UnitState :=
  let count := if u.historyCount = pre then u.historyCount else u.historyCount + 1
  { u with
    flags := { u.flags with preGap := u.flags.preGap || gapBefore f u.lastStored }
    ringFrames := ringWrite u.ringHead f u.ringFrames
    lastStored := some f
    ringHead := (u.ringHead + 1) % pre
    historyCount := count
    phase := if count = pre then .armed else u.phase }

/-- R125: a frame handled in FILLING or ARMED; nothing is stored when pre is 0. -/
def State.storeHistory (k : Fin 4) (f : FrameNumber) (s : State) : State :=
  let u := s.units[k]
  let setup := s.setup.units[k]
  if setup.pre = 0 then s
  else
    let fpp := framesPerPage setup.mask
    let t := match u.prePages[u.ringHead / fpp]? with
      | some pg => s.writeFrame pg (u.ringHead % fpp) setup.mask
      | none => s
    t.setUnitState k (historyUnit setup.pre f u)

/-- R130 steps 2 to 5: a frame stored in the open post page; the capture closes when the remaining post reaches 0. -/
def State.storePost (k : Fin 4) (f : FrameNumber) (s : State) : State :=
  let u := s.units[k]
  let setup := s.setup.units[k]
  let fpp := framesPerPage setup.mask
  let t := match u.postPages[u.postCount / fpp]? with
    | some pg => s.writeFrame pg (u.postCount % fpp) setup.mask
    | none => s
  let v := t.setUnitState k
    { noteGap f u with postCount := u.postCount + 1, lastStored := some f, remaining := u.remaining - 1 }
  if u.remaining - 1 = 0 then (v.closeCapture k).rearm k f else v

/-- R132, R133: a page refused in POST, under the unit's full policy. -/
def State.pageRefused (k : Fin 4) (f : FrameNumber) (s : State) : State :=
  match s.setup.units[k].full with
  | .truncate => ((s.flagUnit k fun g => { g with truncated := true }).closeCapture k).rearm k f
  | .discard => (s.discardCapture k).rearm k f

/-- R130 step 1: whether a post frame needs a page: none is open, or the open one already holds fpp frames. -/
def needsPage (setup : UnitSetup) (u : UnitState) : Bool :=
  decide (u.postCount = u.postPages.length * framesPerPage setup.mask)

/-- R130: a frame handled in POST. -/
def State.handlePost (k : Fin 4) (f : FrameNumber) (s : State) : State :=
  if needsPage s.setup.units[k] s.units[k] then
    match s.claim 1 with
    | some (pages, t) =>
      (t.setUnitState k { s.units[k] with postPages := s.units[k].postPages ++ pages }).storePost k f
    | none => s.pageRefused k f
  else s.storePost k f

/-- R120: a unit handles a taken frame by its state. -/
def State.handleFrame (k : Fin 4) (f : FrameNumber) (s : State) : State :=
  match s.units[k].phase with
  | .idle => s
  | .filling => s.storeHistory k f
  | .armed => s.storeHistory k f
  | .post => s.handlePost k f

/-! ### Requests -/

/-- R142: SET_UNIT; while RUNNING the lanes named must be present. -/
def setUnit (payload : List Byte) (s : State) : State × Answer :=
  match payload with
  | [] => (s, refusal .badLength)
  | i :: fields =>
    match readIndex 4 i with
    | none => (s, refusal .badIndex)
    | some k =>
      if fields.length ≠ 10 then (s, refusal .badLength)
      else if s.units[k].phase ≠ .idle then (s, refusal .inUse)
      else match readUnit fields with
        | none => (s, refusal .badValue)
        | some u =>
          if s.engine = .running ∧ ¬ (maskLanes u.mask).all s.setup.present then (s, refusal .setupConflict)
          else
            (State.setUnitState k clearedUnit { s with setup := { s.setup with units := put s.setup.units k u } },
              okay [])

/-- R143: GET_UNIT. -/
def getUnit (payload : List Byte) (s : State) : State × Answer :=
  match payload with
  | [i] =>
    match readIndex 4 i with
    | none => (s, refusal .badIndex)
    | some k =>
      let u := s.units[k]
      (s, okay (s.setup.units[k].bytes ++ [codeOf UnitPhase.codes u.phase] ++ leBytes 2 u.historyCount
        ++ leBytes 3 u.postCount ++ leBytes 2 u.remaining ++ leBytes 2 u.pages.length
        ++ [u.flags.toByte, u.extensions, u.extraTriggers, BitVec.ofNat 8 u.gaps.length]))
  | _ => (s, refusal .badLength)

/-- R144 steps 1 to 3, shared by the three unit requests. -/
def unitRequest (act : Fin 4 → State → State × Answer) (payload : List Byte) (s : State) : State × Answer :=
  match payload with
  | [i] =>
    match readIndex 4 i with
    | none => (s, refusal .badIndex)
    | some k =>
      match s.engine with
      | .stopped => (s, refusal .state)
      | .running => act k s
  | _ => (s, refusal .badLength)

/-- R144: the unit's state after the request. -/
def unitReport (k : Fin 4) (s : State) : State × Answer := (s, okay [codeOf UnitPhase.codes s.units[k].phase])

/-- R144: ARM_UNIT; a refused claim answers NO_SPACE with the pages needed and the free count. -/
def armRequest (k : Fin 4) (s : State) : State × Answer :=
  if s.units[k].phase ≠ .idle then (s, refusal .state)
  else match s.tryArm k with
    | some t => unitReport k t
    | none =>
      (s, { status := .noSpace
            data := BitVec.ofNat 8 (ringPages s.setup.units[k].mask s.setup.units[k].pre)
              :: leBytes 2 s.store.free.length })

/-- R144, R128: TRIGGER_UNIT: source 255, the current condition word, the trigger frame not yet known. -/
def triggerRequest (k : Fin 4) (s : State) : State × Answer :=
  if s.units[k].phase = .idle then (s, refusal .state)
  else unitReport k (s.triggerUnitBy k 255 (conditionWord s.conditions) none)

/-- R144: ABORT_UNIT. -/
def abortRequest (k : Fin 4) (s : State) : State × Answer :=
  if s.units[k].phase = .idle then (s, refusal .state)
  else unitReport k (s.abortUnitBy k)

/-- R142: SET_UNIT, kind 0x24. -/
def execSetUnit (s : State) : Host.Outcome State Fault Refusal := .next (serve 0x24 setUnit s)

/-- R143: GET_UNIT, kind 0x25. -/
def execGetUnit (s : State) : Host.Outcome State Fault Refusal := .next (serve 0x25 getUnit s)

/-- R144: ARM_UNIT, kind 0x26. -/
def execArmUnit (s : State) : Host.Outcome State Fault Refusal := .next (serve 0x26 (unitRequest armRequest) s)

/-- R144: TRIGGER_UNIT, kind 0x27. -/
def execTriggerUnit (s : State) : Host.Outcome State Fault Refusal := .next (serve 0x27 (unitRequest triggerRequest) s)

/-- R144: ABORT_UNIT, kind 0x28. -/
def execAbortUnit (s : State) : Host.Outcome State Fault Refusal := .next (serve 0x28 (unitRequest abortRequest) s)

end Sys2Proof.Machine
end

