-- ==== Sys2Proof/Machine/Engine.lean ====
section
/-! DEFINITION. The engine and the setup store: runs, stops, the working setup, the stored image, restart, start-up and the hard reset (chapter 10). -/

namespace Sys2Proof.Machine

/-! ### The RUN checks (R190, R38, R145) -/

/-- R38: the lanes of a measure that are checked: lane b for DIFF and MEANPROD only. -/
def checkedLanes (m : MeasureSetup) : List (Fin 16) :=
  match m.kind with
  | .diff | .meanprod => [m.laneA, m.laneB]
  | .copy | .mag | .peak | .trough | .span | .mean => [m.laneA]

/-- R38: an enabled measure that names an absent lane. -/
def measureFails (u : Setup) (m : Fin 16) : Bool :=
  u.measures[m].enabled && !(checkedLanes u.measures[m]).all u.present

/-- R145: a unit whose mask names an absent lane. -/
def unitFails (u : Setup) (k : Fin 4) : Bool := !(maskLanes u.units[k].mask).all u.present

/-- R190: the first item that fails, in the order SA, measures, units. -/
def runChecks (u : Setup) : Option Conflict :=
  if !u.portA.enabled then some .saDisabled
  else match (List.finRange 16).find? (measureFails u) with
    | some m => some (.measure m)
    | none =>
      match (List.finRange 4).find? (unitFails u) with
      | some k => some (.unit k)
      | none => none

/-! ### Starting a run (R191) -/

/-- R64. -/
def runCondition (u : ConditionSetup) (_c : ConditionState) : ConditionState :=
  { phase := if u.armAtRun then .watching else .disarmed, runCount := 0, assertions := 0 }

/-- R79. -/
def runTimer (u : TimerSetup) (_t : TimerState) : TimerState :=
  if u.startAtRun then { phase := .running, count := u.startCount, expiries := 0 }
  else { phase := .idle, count := 0, expiries := 0 }

/-- R9 steps 1 to 4: the interface prepares the run; it is still OFF. -/
def preparedInterface (i : FrameInterface) : FrameInterface :=
  { i with
    frameNumber := 0, shiftA := [], shiftB := [], holding := none
    shortFrames := 0, overruns := 0, syncLosses := 0 }

/-- R9 step 5: SEEKING, or RECEIVING with the first FSY of the run to come. In PROVIDER clocking SCK starts from low (R3), and the part drives the first FSY at the first SCK edge opposite to SA's sampling edge (log 9): SA samples it at its first edge when that is FALLING, at its second when it is RISING. -/
def enteredInterface (u : Setup) (i : FrameInterface) : FrameInterface :=
  match u.interface.source with
  | .follower =>
    { i with
      state := .seeking, lastFsy := false, fsyLow := false, firstFsyDue := false, fsyPhase := 0, syncTimer := none
      sckHigh := false }
  | .provider =>
    { i with
      state := .receiving, lastFsy := false, fsyLow := false, firstFsyDue := true, syncTimer := none, sckHigh := false
      fsyPhase := match u.portA.edge with
        | .rising => u.interface.frameLength - 1
        | .falling => 0 }

/-- R191: the RUN effects before the arm-at-run claims. -/
def State.prepareRun (s : State) : State :=
  { s with
    engine := .running
    runNumber := nextFromOne s.runNumber
    iface := preparedInterface s.iface
    lastTaken := none
    measures := tab fun _ => clearedMeasure
    conditions := tab fun c => runCondition s.setup.conditions[c] s.conditions[c]
    timers := tab fun t => runTimer s.setup.timers[t] s.timers[t]
    events := [] }

/-- R146: a unit with arm-at-run performs ARM. -/
def State.armAtRun (s : State) (k : Fin 4) : State :=
  if s.setup.units[k].armAtRun then s.armUnitBy k .armAtRun 0 else s

/-- R191: the RUN effects, the interface entering SEEKING or RECEIVING last. -/
def State.startRun (s : State) : State :=
  let t := (List.finRange 4).foldl State.armAtRun s.prepareRun
  { t with iface := enteredInterface t.setup t.iface }

/-- R190: RUN. -/
def runRequest (payload : List Byte) (s : State) : State × Answer :=
  match payload with
  | [] =>
    match s.engine with
    | .running => (s, refusal .state)
    | .stopped =>
      match runChecks s.setup with
      | some c => (s, { status := .setupConflict, data := c.bytes })
      | none => (s.startRun, okay (leBytes 2 s.startRun.runNumber.toNat))
  | _ => (s, refusal .badLength)

/-! ### Stopping (R192) -/

/-- R23. -/
def stoppedInterface (i : FrameInterface) : FrameInterface :=
  { i with
    state := .off, shiftA := [], shiftB := [], holding := none, firstFsyDue := false, syncTimer := none, sckHigh := false }

/-- R192 but for the units: the interface is OFF first, the pending event set is emptied and collects nothing any more. -/
def State.haltBlocks (s : State) : State :=
  { s with
    engine := .stopped
    iface := stoppedInterface s.iface
    measures := tab fun m => { s.measures[m] with fresh := false }
    conditions := tab fun c => { s.conditions[c] with phase := .disarmed, runCount := 0 }
    timers := tab fun t => { s.timers[t] with phase := .idle }
    events := [] }

/-- R192, R147: the stop effects, the units' in unit order. -/
def State.stopEngine (s : State) : State :=
  (List.finRange 4).foldl (fun a k => a.stopUnit k) s.haltBlocks

/-- R192: STOP; in STOPPED it changes nothing. -/
def stopRequest (payload : List Byte) (s : State) : State × Answer :=
  match payload with
  | [] =>
    match s.engine with
    | .stopped => (s, okay (leBytes 5 s.iface.frameNumber.toNat))
    | .running => (s.stopEngine, okay (leBytes 5 s.stopEngine.iface.frameNumber.toNat))
  | _ => (s, refusal .badLength)

/-! ### The working setup replaced as a whole (R193) -/

/-- R193: the blocks take up a new setup: measures cleared (R40), timer counts 0 (R81), the low-water state set (R154), the filter times at once (R113). -/
def State.takeUp (u : Setup) (s : State) : State :=
  State.refilter 1 (State.refilter 0 (State.markLow
    { s with
      setup := u
      measures := tab fun _ => clearedMeasure
      timers := tab fun t => { s.timers[t] with count := 0 } }))

/-- R198 step 3: where the working setup is loaded from. -/
def SetupImage.source (i : SetupImage) : SetupSource :=
  match i.state with
  | .valid => .stored
  | .neverWritten => .defaultsEmpty
  | .invalid => .defaultsInvalid

/-- R198 step 3: the setup that replaces the working setup: the image's contents when it is VALID, else the defaults. -/
def SetupImage.loaded (i : SetupImage) : Setup :=
  match i.state with
  | .valid => i.contents
  | .neverWritten => Sys2Proof.Machine.defaultSetup
  | .invalid => Sys2Proof.Machine.defaultSetup

/-- R197: DEFAULT_SETUP. -/
def defaultRequest (payload : List Byte) (s : State) : State × Answer :=
  match payload with
  | [] =>
    match s.engine with
    | .running => (s, refusal .state)
    | .stopped => (s.takeUp Sys2Proof.Machine.defaultSetup, okay [])
  | _ => (s, refusal .badLength)

/-- R197: SET_AUTORUN. -/
def autorunRequest (payload : List Byte) (s : State) : State × Answer :=
  match payload with
  | [f] =>
    match readYesNo f with
    | none => (s, refusal .badValue)
    | some b => ({ s with setup := { s.setup with autoRun := b } }, okay [yesNo b])
  | _ => (s, refusal .badLength)

/-! ### Saving and loading (R195, R196) -/

/-- The dispatcher in a new state. -/
def State.dispatcherTo (d : Dispatcher) (s : State) : State :=
  { s with link := { s.link with dispatcher := d } }

/-- R195 steps 1 and 2: the working setup copied, the image INVALID, the write begun. -/
def State.beginSave (s : State) : State :=
  State.dispatcherTo (.waiting (.saving s.setup)) { s with image := { s.image with state := .invalid } }

/-- R195 steps 4 and 5: the end of the write and its verification. -/
def State.endSave (copy : Setup) (verified : Bool) (s : State) : State :=
  let generation := nextFromOne s.image.generation
  if verified then
    State.answer (okay (leBytes 4 generation.toNat))
      { s with image := { state := .valid, generation := generation, contents := copy } }
  else s.answer (refusal .storeFailed)

/-- R196: the end of the image read of LOAD_SETUP. -/
def State.endLoad (s : State) : State :=
  match s.image.state with
  | .valid => (s.takeUp s.image.contents).answer (okay (leBytes 4 s.image.generation.toNat))
  | .neverWritten => s.answer (refusal .storeFailed)
  | .invalid => s.answer (refusal .storeFailed)

/-! ### Restart and start-up (R198, R199) -/

/-- R198 step 5, R199 step 3: the outcome of the auto-run checks. -/
def autoOutcome (u : Setup) : AutoRun :=
  if u.autoRun then
    match runChecks u with
    | none => .started
    | some c => .refused c
  else .off

/-- R199: the run number that READY carries. -/
def readyRun (a : AutoRun) (n : RunNumber) : RunNumber :=
  match a with
  | .started => nextFromOne n
  | .off => n
  | .refused _ => n

/-- R198 steps 5 to 7, R199 steps 3 to 5: the checks, READY, and the run if they passed. -/
def State.comeUp (cause : ReadyCause) (s : State) : State :=
  let a := autoOutcome s.setup
  let t := s.notify (.ready cause s.image.source s.image.generation a (readyRun a s.runNumber))
  match a with
  | .started => t.startRun
  | .off => t
  | .refused _ => t

/-- R198 step 4: the runtime counts cleared and the action levels low. -/
def State.clearRuntime (s : State) : State :=
  { s with
    iface := { s.iface with frameNumber := 0, shortFrames := 0, overruns := 0, syncLosses := 0 }
    measures := tab fun _ => clearedMeasure
    conditions := tab fun c => { s.conditions[c] with assertions := 0 }
    timers := tab fun t => { s.timers[t] with count := 0, expiries := 0 }
    actionLevels := tab fun _ => false }

/-- R198 steps 1 and 2: the reply is placed, the engine stopped if it runs, and the image read begins. -/
def State.beginRestart (q : Request) (s : State) : State :=
  let t := { s with link := s.link.placeReply (replyTo q (okay [])) }
  State.dispatcherTo (.executing .restarting)
    (match s.engine with
      | .running => t.stopEngine
      | .stopped => t)

/-- R198 steps 3 to 7, then the RESTART request is removed. -/
def State.endRestart (s : State) : State :=
  let t := ((s.takeUp s.image.loaded).clearRuntime).comeUp .restart
  { t with link := t.link.requestDone }

/-- R199: READY's cause at start-up. -/
def readyCause : ResetCause → ReadyCause
  | .power => .power
  | .pin => .pin

/-- R190: RUN, kind 0x03. -/
def execRun (s : State) : Host.Outcome State Fault Refusal := .next (serve 0x03 runRequest s)

/-- R192: STOP, kind 0x04. -/
def execStop (s : State) : Host.Outcome State Fault Refusal := .next (serve 0x04 stopRequest s)

/-- R198, R180: RESTART, kind 0x05. The dispatcher waits for a place in the reply queue before it begins (log 16). -/
def execRestart (s : State) : Host.Outcome State Fault Refusal :=
  .next (s.onRequest (fun k => decide (k = 0x05)) fun q t =>
    if q.payload ≠ [] then t.answer (refusal .badLength)
    else if t.link.replies.length < Config.replyPlaces then t.beginRestart q
    else t)

/-- R198: the restart's image read is complete. -/
def execRestartSetupRead (s : State) : Host.Outcome State Fault Refusal :=
  .next (if s.link.dispatcher = .executing .restarting then s.endRestart else s)

/-- R195: SAVE_SETUP, kind 0x06. -/
def execSaveSetup (s : State) : Host.Outcome State Fault Refusal :=
  .next (s.onRequest (fun k => decide (k = 0x06)) fun q t =>
    if q.payload ≠ [] then t.answer (refusal .badLength) else t.beginSave)

/-- R195: the write has ended and been compared with the copy; `verified` says whether it was completed and agreed. -/
def execSaveComplete (verified : Bool) (s : State) : Host.Outcome State Fault Refusal :=
  .next (match s.link.dispatcher with
    | .waiting (.saving copy) => s.endSave copy verified
    | .waiting .loading => s
    | .idle => s
    | .executing _ => s)

/-- R196: LOAD_SETUP, kind 0x07. -/
def execLoadSetup (s : State) : Host.Outcome State Fault Refusal :=
  .next (s.onRequest (fun k => decide (k = 0x07)) fun q t =>
    if q.payload ≠ [] then t.answer (refusal .badLength)
    else match t.engine with
      | .running => t.answer (refusal .state)
      | .stopped => t.dispatcherTo (.waiting .loading))

/-- R196: the image read of LOAD_SETUP is complete. -/
def execLoadComplete (s : State) : Host.Outcome State Fault Refusal :=
  .next (match s.link.dispatcher with
    | .waiting .loading => s.endLoad
    | .waiting (.saving _) => s
    | .idle => s
    | .executing _ => s)

/-- R197: DEFAULT_SETUP, kind 0x08. -/
def execDefaultSetup (s : State) : Host.Outcome State Fault Refusal := .next (serve 0x08 defaultRequest s)

/-- R197: SET_AUTORUN, kind 0x09. -/
def execSetAutorun (s : State) : Host.Outcome State Fault Refusal := .next (serve 0x09 autorunRequest s)

/-- R199 step 1, R187: every block takes its reset values; the image survives, and the commands that wait still wait (log 19). -/
def execHardReset (cause : ResetCause) (pins : ResetPins) (s : State) : Host.Outcome State Fault Refusal :=
  .next (State.afterReset cause pins s.image s.pending)

/-- R199 steps 2 to 5: the start-up read of the image is complete. -/
def execStartupSetupRead (s : State) : Host.Outcome State Fault Refusal :=
  .next (match s.startup with
    | some cause => State.comeUp (readyCause cause) { s.takeUp s.image.loaded with startup := none }
    | none => s)

end Sys2Proof.Machine
end

