-- ==== Sys2Proof/Machine/Receive.lean ====
section
/-! DEFINITION. The control link: the receiver, the request queue, the transmitter, identification and status (chapter 9). -/

namespace Sys2Proof.Machine

/-! ### Receiving (R171, R174 to R176) -/

/-- R174, R175: the message in progress is discarded and the receiver returns to HUNT. -/
def Link.hunt (l : Link) : Link := { l with receiver := { l.receiver with state := .hunt, gap := 0 } }

/-- The receiver in a new state, a byte having just been taken. -/
def Link.rxTo (st : RxState) (l : Link) : Link := { l with receiver := { l.receiver with state := st, gap := 0 } }

/-- R176: a good message joins the request queue while it holds fewer than two; the dispatcher leaves IDLE for a request that joins an empty queue (R177). -/
def Link.enqueue (q : Request) (l : Link) : Link :=
  { l with
    requests := l.requests ++ [q]
    dispatcher := match l.dispatcher with
      | .idle => .executing .begun
      | .executing e => .executing e
      | .waiting w => .waiting w }

/-- R176: the OVERRUN reply that the receiver places itself. -/
def overrunReply (q : Request) : Reply :=
  { kind := replyKind q.kind, tag := q.tag, status := .overrun, data := [] }

/-- R176: a good message is offered. `starting`: READY of start-up has not been queued yet. -/
def Link.offer (starting : Bool) (q : Request) (l : Link) : Link :=
  if l.requests.length < Config.requestPlaces then l.enqueue q
  else if !starting && decide (l.replies.length < Config.replyPlaces) then l.placeReply (overrunReply q)
  else { l with overrunDrops := satInc l.overrunDrops }

/-- R172: the request that a body carries: kind, tag, payload. -/
def readBody : List Byte → Option Request
  | kind :: tag :: payload => some { kind := kind, tag := tag, payload := payload }
  | _ => none

/-- R174, R175: the second check byte: the received check is compared with the computed one. -/
def Link.endMessage (starting : Bool) (len : Nat) (body : List Byte) (received : Nat) (l : Link) : Link :=
  if (check (BitVec.ofNat 8 len :: body)).toNat = received then
    match readBody body with
    | some q => l.hunt.offer starting q
    | none => l.hunt
  else { l.hunt with checkErrors := satInc l.checkErrors }

/-- R174: one byte whose stop bit was high. -/
def Link.takeByte (starting : Bool) (b : Byte) (l : Link) : Link :=
  match l.receiver.state with
  | .hunt => if b = Config.startByte then l.rxTo .length else l
  | .length =>
    if 2 ≤ b.toNat ∧ b.toNat ≤ 250 then l.rxTo (.body b.toNat [])
    else { l.hunt with lengthErrors := satInc l.lengthErrors }
  | .body len got =>
    if got.length + 1 < len then l.rxTo (.body len (got ++ [b])) else l.rxTo (.check len (got ++ [b]) none)
  | .check len got none => l.rxTo (.check len got (some b))
  | .check len got (some low) => l.endMessage starting len got (leNat [low, b])

/-- R171, R175: one byte time on LRX. No byte begins until the line has been high after a stop-bit error; a stop bit sampled low is one framing error and the message in progress is discarded. -/
def Link.lineByte (starting : Bool) (b : LrxByte) (l : Link) : Link :=
  if l.receiver.awaitHigh && !b.high then l
  else
    let m := { l with receiver := { l.receiver with awaitHigh := !b.stop } }
    if b.stop then m.takeByte starting (lrxValue b)
    else { m.hunt with framingErrors := satInc l.framingErrors }

/-- R199: from the end of a hard reset until READY of start-up is queued. -/
def State.starting (s : State) : Bool := s.startup.isSome

/-- The bytes of LRX taken one at a time (R174). -/
def State.receive (bytes : List LrxByte) (s : State) : State :=
  { s with link := bytes.foldl (fun l b => l.lineByte s.starting b) s.link }

/-- R175: `periods` more without a byte: in LENGTH, BODY and CHECK the message fails when more than 10 ms have passed; in HUNT no timeout is measured. -/
def Link.silence (periods : Nat) (l : Link) : Link :=
  match l.receiver.state with
  | .hunt => l
  | .length | .body _ _ | .check _ _ _ =>
    if Config.receiveTimeout < l.receiver.gap + periods then { l.hunt with timeouts := satInc l.timeouts }
    else { l with receiver := { l.receiver with gap := l.receiver.gap + periods } }

/-- R174 to R176: bytes arrive on LRX; a message they complete is checked and, if good, offered to the request queue. -/
def execMessageReceived (bytes : List LrxByte) (s : State) : Host.Outcome State Fault Refusal :=
  .next (s.receive bytes)

/-- R175: the receive timeout. -/
def execReceiveTimeout (periods : Nat) (s : State) : Host.Outcome State Fault Refusal :=
  .next { s with link := s.link.silence periods }

/-- R175: a stop-bit error: the framing-error count rises and the receiver waits for LRX to return high. In HUNT the byte is ignored; in LENGTH, BODY and CHECK the message in progress is discarded. A byte whose stop bit is high is no such error (log 2). -/
def execStopBitError (byte : LrxByte) (s : State) : Host.Outcome State Fault Refusal :=
  .next (if byte.stop then s else s.receive [byte])

/-! ### The transmitter and the held reply (R180 to R182) -/

/-- R181, R182: the last stop bit of a message has gone out: its entry is removed and the next message chosen. -/
def Link.sent (l : Link) : Link :=
  match l.transmitter with
  | .idle => l
  | .sendingReply _ => Link.choose { l with replies := l.replies.tail }
  | .sendingNotice _ => Link.choose { l with notices := l.notices.tail }

/-- R181: the last stop bit of a notice has gone out; nothing while LTX carries no notice. -/
def Link.noticeSent (l : Link) : Link :=
  match l.transmitter with
  | .idle => l
  | .sendingReply _ => l
  | .sendingNotice _ => l.sent

/-- R181, R182. -/
def execTransmitComplete (s : State) : Host.Outcome State Fault Refusal :=
  .next { s with link := s.link.sent }

/-- R180: the dispatcher places the reply it holds when the reply queue has a place, and removes the request. -/
def execReplyPlaced (s : State) : Host.Outcome State Fault Refusal :=
  .next (match s.link.dispatcher with
    | .executing (.holding r) => { s with link := s.link.settle r }
    | .executing .begun => s
    | .executing .restarting => s
    | .idle => s
    | .waiting _ => s)

/-- R178: a kind that is not a request kind is refused, whatever the payload. -/
def execUnknownKind (s : State) : Host.Outcome State Fault Refusal :=
  .next (s.onRequest (fun k => !isRequestKind k) fun _ t => t.answer (refusal .unknownKind))

/-! ### Identification and status (R184, R185) -/

/-- R184: the sixteen bytes of the IDENTIFY reply. -/
def identity : List Byte :=
  leBytes 2 0x4D54 ++ leBytes 2 0x0416 ++ [1, 16, 16, 32, 48, 4, 4] ++ leBytes 2 256 ++ leBytes 2 512 ++ [32]

/-- R184: IDENTIFY. -/
def identifyRequest (payload : List Byte) (s : State) : State × Answer :=
  match payload with
  | [] => (s, okay identity)
  | _ => (s, refusal .badLength)

/-- R185: the 41 bytes of the STATUS reply. -/
def statusReport (s : State) : List Byte :=
  [codeOf EngineState.codes s.engine] ++ leBytes 2 s.runNumber.toNat ++ leBytes 5 s.iface.frameNumber.toNat
    ++ [codeOf IfaceState.codes s.iface.state] ++ leBytes 4 (conditionWord s.conditions).toNat
    ++ (s.units.toList.map fun u => codeOf UnitPhase.codes u.phase)
    ++ (s.timers.toList.map fun t => codeOf TimerPhase.codes t.phase)
    ++ leBytes 2 s.store.free.length ++ [BitVec.ofNat 8 s.store.index.length] ++ leBytes 2 s.link.noticesLost.toNat
    ++ leBytes 2 s.link.framingErrors.toNat ++ leBytes 2 s.link.lengthErrors.toNat ++ leBytes 2 s.link.timeouts.toNat
    ++ leBytes 2 s.link.checkErrors.toNat ++ leBytes 2 s.link.overrunDrops.toNat
    ++ [codeOf ImageState.codes s.image.state] ++ leBytes 4 s.image.generation.toNat

/-- R185: the counts that the clear flag sets to 0. -/
def Link.clearCounts (l : Link) : Link :=
  { l with framingErrors := 0, lengthErrors := 0, timeouts := 0, checkErrors := 0, overrunDrops := 0, noticesLost := 0 }

/-- R185: STATUS: the reply shows the counts as they stood before the clearing. -/
def statusRequest (payload : List Byte) (s : State) : State × Answer :=
  match payload with
  | [f] =>
    match readYesNo f with
    | none => (s, refusal .badValue)
    | some true => ({ s with link := s.link.clearCounts }, okay (statusReport s))
    | some false => (s, okay (statusReport s))
  | _ => (s, refusal .badLength)

/-- R184: IDENTIFY, kind 0x01. -/
def execIdentify (s : State) : Host.Outcome State Fault Refusal := .next (serve 0x01 identifyRequest s)

/-- R185: STATUS, kind 0x02. -/
def execStatus (s : State) : Host.Outcome State Fault Refusal := .next (serve 0x02 statusRequest s)

end Sys2Proof.Machine
end

