-- ==== Sys2Proof/Machine/Conditions.lean ====
section
/-! DEFINITION. The conditions C0 to C31: tests, evaluation, operations, and the requests that reach them (chapter 3). -/

namespace Sys2Proof.Machine

/-- R47: the assert test, formed exactly. -/
def assertTest (u : ConditionSetup) (v : Lane) : Bool :=
  match u.test with
  | .above => decide (v.toInt > u.upper.toInt)
  | .below => decide (v.toInt < u.lower.toInt)
  | .outside => decide (v.toInt > u.upper.toInt) || decide (v.toInt < u.lower.toInt)
  | .inside => decide (u.lower.toInt ≤ v.toInt) && decide (v.toInt ≤ u.upper.toInt)

/-- R47: the release test, formed exactly, moved by the hysteresis. -/
def releaseTest (u : ConditionSetup) (v : Lane) : Bool :=
  match u.test with
  | .above => decide (v.toInt ≤ u.upper.toInt - u.hysteresis)
  | .below => decide (v.toInt ≥ u.lower.toInt + u.hysteresis)
  | .outside => decide (u.lower.toInt + u.hysteresis ≤ v.toInt) && decide (v.toInt ≤ u.upper.toInt - u.hysteresis)
  | .inside => decide (v.toInt > u.upper.toInt + u.hysteresis) || decide (v.toInt < u.lower.toInt - u.hysteresis)

/-- R49 to R52: one condition at a take, given its measure after the update. -/
def evalCondition (u : ConditionSetup) (m : MeasureState) (c : ConditionState) : ConditionState :=
  if m.fresh then
    match c.phase with
    | .disarmed => c
    | .watching =>
      if assertTest u m.output then
        if c.runCount + 1 = u.qualify then { phase := .asserted, runCount := 0, assertions := satInc c.assertions }
        else { c with runCount := c.runCount + 1 }
      else { c with runCount := 0 }
    | .asserted =>
      if u.latched then c
      else if releaseTest u m.output then
        if c.runCount + 1 = u.release then { c with phase := .watching, runCount := 0 }
        else { c with runCount := c.runCount + 1 }
      else { c with runCount := 0 }
  else c

/-- R49: every condition evaluated from the same measure outputs. -/
def State.evaluated (s : State) : Vector ConditionState 32 :=
  tab fun c => evalCondition s.setup.conditions[c] s.measures[s.setup.conditions[c].measure] s.conditions[c]

/-- R53: the frame-born events, those of the conditions whose state the evaluation changed. -/
def frameBorn (before after : Vector ConditionState 32) : List EventId :=
  (((List.finRange 32).filter fun c => decide (before[c].phase = .watching ∧ after[c].phase = .asserted)).map evAssert)
    ++ (((List.finRange 32).filter fun c => decide (before[c].phase = .asserted ∧ after[c].phase = .watching)).map evRelease)

/-- R56: ARM. -/
def condArm (_u : ConditionSetup) (c : ConditionState) : ConditionState :=
  match c.phase with
  | .disarmed => { c with phase := .watching, runCount := 0 }
  | .watching => c
  | .asserted => c

/-- R57: DISARM. -/
def condDisarm (_u : ConditionSetup) (c : ConditionState) : ConditionState :=
  match c.phase with
  | .disarmed => c
  | .watching => { c with phase := .disarmed, runCount := 0 }
  | .asserted => { c with phase := .disarmed, runCount := 0 }

/-- R58: UNLATCH. -/
def condUnlatch (u : ConditionSetup) (c : ConditionState) : ConditionState :=
  match c.phase with
  | .disarmed => c
  | .watching => c
  | .asserted => if u.latched then { c with phase := .watching, runCount := 0 } else c

/-- R56 to R59: one operation on one condition; leaving ASSERTED places an action-born RELEASE in the pending event set. -/
def State.onCondition (op : ConditionSetup → ConditionState → ConditionState) (c : Fin 32) (s : State) : State :=
  let after := op s.setup.conditions[c] s.conditions[c]
  let t := { s with conditions := put s.conditions c after }
  if s.conditions[c].phase = .asserted ∧ after.phase ≠ .asserted then t.raise (evRelease c) else t

/-- R60: ARM_CONDITION, DISARM_CONDITION and UNLATCH_CONDITION with their checks in order. -/
def conditionRequest (op : ConditionSetup → ConditionState → ConditionState) (payload : List Byte) (s : State) :
    State × Answer :=
  match payload with
  | [i] =>
    match readIndex 32 i with
    | none => (s, refusal .badIndex)
    | some c =>
      match s.engine with
      | .stopped => (s, refusal .state)
      | .running => (s.onCondition op c, okay [codeOf CondPhase.codes (s.onCondition op c).conditions[c].phase])
  | _ => (s, refusal .badLength)

/-- R62: SET_CONDITION. The condition stays DISARMED with run count 0; its assertion count is kept. -/
def setCondition (payload : List Byte) (s : State) : State × Answer :=
  match payload with
  | [] => (s, refusal .badLength)
  | i :: fields =>
    match readIndex 32 i with
    | none => (s, refusal .badIndex)
    | some c =>
      if fields.length ≠ 14 then (s, refusal .badLength)
      else if s.conditions[c].phase ≠ .disarmed then (s, refusal .inUse)
      else match readCondition fields with
        | none => (s, refusal .badValue)
        | some u =>
          ({ s with
              setup := { s.setup with conditions := put s.setup.conditions c u }
              conditions := put s.conditions c { s.conditions[c] with runCount := 0 } }, okay [])

/-- R63: GET_CONDITION. -/
def getCondition (payload : List Byte) (s : State) : State × Answer :=
  match payload with
  | [i] =>
    match readIndex 32 i with
    | none => (s, refusal .badIndex)
    | some c =>
      (s, okay (s.setup.conditions[c].bytes
        ++ [codeOf CondPhase.codes s.conditions[c].phase, BitVec.ofNat 8 s.conditions[c].runCount]
        ++ leBytes 2 s.conditions[c].assertions.toNat))
  | _ => (s, refusal .badLength)

/-- R62: SET_CONDITION, kind 0x14. -/
def execSetCondition (s : State) : Host.Outcome State Fault Refusal := .next (serve 0x14 setCondition s)

/-- R63: GET_CONDITION, kind 0x15. -/
def execGetCondition (s : State) : Host.Outcome State Fault Refusal := .next (serve 0x15 getCondition s)

/-- R60: ARM_CONDITION, kind 0x16. -/
def execArmCondition (s : State) : Host.Outcome State Fault Refusal := .next (serve 0x16 (conditionRequest condArm) s)

/-- R60: DISARM_CONDITION, kind 0x17. -/
def execDisarmCondition (s : State) : Host.Outcome State Fault Refusal :=
  .next (serve 0x17 (conditionRequest condDisarm) s)

/-- R60: UNLATCH_CONDITION, kind 0x18. -/
def execUnlatchCondition (s : State) : Host.Outcome State Fault Refusal :=
  .next (serve 0x18 (conditionRequest condUnlatch) s)

end Sys2Proof.Machine
end

