-- ==== Sys2Proof/Machine/Matrix.lean ====
section
/-! DEFINITION. The event matrix: guards, firing, grouping by target, EVENT notices, and the requests that reach it (chapter 5). -/

namespace Sys2Proof.Machine

/-- R93: the guard judged on the condition states as the evaluation left them. -/
def guardHolds (b : Binding) (cs : Vector ConditionState 32) : Bool :=
  match b.guardKind with
  | .always => true
  | .whenAsserted => decide (cs[b.guardCond].phase = .asserted)
  | .whenNotAsserted => decide (cs[b.guardCond].phase ≠ .asserted)

/-- R94: a binding fires when it is enabled, its source is delivered, and its guard holds. -/
def fires (b : Binding) (delivered : List EventId) (cs : Vector ConditionState 32) : Bool :=
  b.enabled && decide (b.source ∈ delivered) && guardHolds b cs

/-- R94: the bindings that fire in one delivery, lowest number first. -/
def firedBindings (bs : Vector Binding 48) (delivered : List EventId) (cs : Vector ConditionState 32) : List (Fin 48) :=
  (List.finRange 48).filter fun b => fires bs[b] delivered cs

/-- R95: whether a fired binding hands this action to this target. -/
def reaches (bs : Vector Binding 48) (fired : List (Fin 48)) (a : Action) (target : Nat) : Bool :=
  fired.any fun b => decide (bs[b].action = a ∧ bs[b].target = target)

/-- R95: the kind of highest precedence among `order` that reached a target. -/
def winner (bs : Vector Binding 48) (fired : List (Fin 48)) (order : List Action) (target : Nat) : Option Action :=
  order.find? fun a => reaches bs fired a target

/-- R127: the source of the lowest-numbered fired binding that gave the TRIGGER to unit `k`. -/
def triggerSource (bs : Vector Binding 48) (fired : List (Fin 48)) (k : Fin 4) : Byte :=
  match fired.find? fun b => decide (bs[b].action = .unitTrigger ∧ bs[b].target = k.val) with
  | some b => BitVec.ofNat 8 bs[b].source.val
  | none => 255

/-- R98: the fired NOTIFY bindings, lowest number first. -/
def notifying (bs : Vector Binding 48) (fired : List (Fin 48)) : List (Fin 48) :=
  fired.filter fun b => decide (bs[b].action = .notify)

/-- R98, R99: one fired NOTIFY binding offers its EVENT notice. -/
def State.offerEvent (frame : FrameNumber) (word : BitVec 32) (s : State) (b : Fin 48) : State :=
  s.notify (.event b s.setup.bindings[b].source s.runNumber frame word)

/-- R100: SET_BINDING, accepted in every engine state. -/
def setBinding (payload : List Byte) (s : State) : State × Answer :=
  match payload with
  | [] => (s, refusal .badLength)
  | i :: fields =>
    match readIndex 48 i with
    | none => (s, refusal .badIndex)
    | some b =>
      if fields.length ≠ 6 then (s, refusal .badLength)
      else match readBinding fields with
        | none => (s, refusal .badValue)
        | some r => ({ s with setup := { s.setup with bindings := put s.setup.bindings b r } }, okay [])

/-- R101: GET_BINDING. -/
def getBinding (payload : List Byte) (s : State) : State × Answer :=
  match payload with
  | [i] =>
    match readIndex 48 i with
    | none => (s, refusal .badIndex)
    | some b => (s, okay s.setup.bindings[b].bytes)
  | _ => (s, refusal .badLength)

/-- R102: the soft events that a soft set names. -/
def softEvents (set : Byte) : List (Fin 4) := (List.finRange 4).filter fun n => set.getLsbD n.val

/-- R102: FIRE. -/
def fire (payload : List Byte) (s : State) : State × Answer :=
  match payload with
  | [set] =>
    match s.engine with
    | .stopped => (s, refusal .state)
    | .running =>
      if set.toNat > 15 then (s, refusal .badValue)
      else ((softEvents set).foldl (fun a n => a.raise (evSoft n)) s, okay [set])
  | _ => (s, refusal .badLength)

/-- R100: SET_BINDING, kind 0x1E. -/
def execSetBinding (s : State) : Host.Outcome State Fault Refusal := .next (serve 0x1E setBinding s)

/-- R101: GET_BINDING, kind 0x1F. -/
def execGetBinding (s : State) : Host.Outcome State Fault Refusal := .next (serve 0x1F getBinding s)

/-- R102: FIRE, kind 0x20. -/
def execFire (s : State) : Host.Outcome State Fault Refusal := .next (serve 0x20 fire s)

end Sys2Proof.Machine
end

