-- ==== Sys2Proof/Machine/Measures.lean ====
section
/-! DEFINITION. The measures M0 to M15: their arithmetic, their windows, and the requests that reach them (chapter 2). -/

namespace Sys2Proof.Machine

/-- The bounds of the lane-value range (00_scope.md, "Lane values"). -/
def laneMax : Int := 8388607
def laneMin : Int := -8388608

/-- A result outside the lane-value range is replaced by the nearer bound (00_scope.md, "Clamped"). -/
def clamp (x : Int) : Lane :=
  BitVec.ofInt 24 (if x > laneMax then laneMax else if x < laneMin then laneMin else x)

/-- The larger of two lane values. -/
def laneLarger (a b : Lane) : Lane := if a.toInt < b.toInt then b else a

/-- The smaller of two lane values. -/
def laneSmaller (a b : Lane) : Lane := if b.toInt < a.toInt then b else a

/-- R25: COPY, DIFF and MAG are the per-frame kinds. -/
def MeasureKind.perFrame : MeasureKind → Bool
  | .copy | .diff | .mag => true
  | .peak | .trough | .span | .mean | .meanprod => false

/-- R28: the output of a per-frame kind. -/
def frameOutput (kind : MeasureKind) (la lb : Lane) : Lane :=
  match kind with
  | .diff => clamp (la.toInt - lb.toInt)
  | .mag => clamp (if la.toInt < 0 then -la.toInt else la.toInt)
  | .copy | .peak | .trough | .span | .mean | .meanprod => la

/-- R33: the product shifted right arithmetically by 23 bits, division by 8388608 rounded toward minus infinity. -/
def shiftedProduct (la lb : Lane) : Int := Int.fdiv (la.toInt * lb.toInt) 8388608

/-- R29: the term a frame contributes to the running sum. -/
def windowTerm (kind : MeasureKind) (la lb : Lane) : Int :=
  match kind with
  | .mean => la.toInt
  | .meanprod => shiftedProduct la lb
  | .copy | .diff | .mag | .peak | .trough | .span => 0

/-- R30 to R34: the output a window forms at its close. The mean truncates toward zero. -/
def windowOutput (kind : MeasureKind) (largest smallest : Lane) (sum : Int) (w : Nat) : Lane :=
  match kind with
  | .peak => largest
  | .trough => smallest
  | .span => clamp (largest.toInt - smallest.toInt)
  | .mean => BitVec.ofInt 24 (Int.tdiv sum w)
  | .meanprod => clamp (Int.tdiv sum w)
  | .copy | .diff | .mag => largest

/-- R29 steps 1 to 3: the frame taken into the current window, the position increased by one. -/
def windowTake (kind : MeasureKind) (la lb : Lane) (m : MeasureState) : MeasureState :=
  if m.position = 0 then
    { m with largest := la, smallest := la, sum := windowTerm kind la lb, position := 1 }
  else
    { m with
      largest := laneLarger m.largest la
      smallest := laneSmaller m.smallest la
      sum := m.sum + windowTerm kind la lb
      position := m.position + 1 }

/-- R27 to R29: one measure updated from the lane vector of a taken frame. -/
def updateMeasure (u : MeasureSetup) (lanes : Vector Lane 16) (m : MeasureState) : MeasureState :=
  let la := lanes[u.laneA]
  let lb := lanes[u.laneB]
  if u.enabled then
    if u.kind.perFrame then { m with output := frameOutput u.kind la lb, fresh := true }
    else
      let t := windowTake u.kind la lb m
      if t.position = u.window then
        { clearedMeasure with output := windowOutput u.kind t.largest t.smallest t.sum u.window, fresh := true }
      else { t with fresh := false }
  else { m with fresh := false }

/-- R27: the measures are independent of one another. -/
def State.updateMeasures (s : State) : State :=
  { s with measures := tab fun m => updateMeasure s.setup.measures[m] s.lanes s.measures[m] }

/-- R41, R40: SET_MEASURE. -/
def setMeasure (payload : List Byte) (s : State) : State × Answer :=
  match payload with
  | [] => (s, refusal .badLength)
  | i :: fields =>
    match readIndex 16 i with
    | none => (s, refusal .badIndex)
    | some m =>
      if fields.length ≠ 6 then (s, refusal .badLength)
      else if s.engine ≠ .stopped then (s, refusal .state)
      else match readMeasure fields with
        | none => (s, refusal .badValue)
        | some u =>
          ({ s with
              setup := { s.setup with measures := put s.setup.measures m u }
              measures := put s.measures m clearedMeasure }, okay [])

/-- R42: GET_MEASURE. -/
def getMeasure (payload : List Byte) (s : State) : State × Answer :=
  match payload with
  | [i] =>
    match readIndex 16 i with
    | none => (s, refusal .badIndex)
    | some m =>
      (s, okay (s.setup.measures[m].bytes ++ laneBytes s.measures[m].output ++ leBytes 2 s.measures[m].position
        ++ [yesNo s.measures[m].fresh]))
  | _ => (s, refusal .badLength)

/-- R41: SET_MEASURE, kind 0x12. -/
def execSetMeasure (s : State) : Host.Outcome State Fault Refusal := .next (serve 0x12 setMeasure s)

/-- R42: GET_MEASURE, kind 0x13. -/
def execGetMeasure (s : State) : Host.Outcome State Fault Refusal := .next (serve 0x13 getMeasure s)

end Sys2Proof.Machine
end

