-- ==== Sys2Proof/Machine/Take.lean ====
section
/-! DEFINITION. TAKE: the free engine takes the frame in the holding stage and works it through the measures, the conditions, the delivery and the capture units (R16, R17, R27, R49, R87, R96). -/

namespace Sys2Proof.Machine

/-- R16, R86, R128: the take itself: the stage is emptied, the lane vector formed, the pending event set passes to the delivered set, and the trigger frame of a capture triggered by request is set. -/
def State.beginTake (f : HeldFrame) (s : State) : State :=
  { s with
    iface := { s.iface with holding := none }
    lanes := laneVector s.setup f
    lastTaken := some f.number
    events := []
    units := tab fun k => s.units[k].fixTrigger f.number }

/-- R49, R54: the evaluation of the frame; the pins as it leaves them (R107; log 24). -/
def State.evaluate (s : State) : State :=
  { s with
    conditions := s.evaluated
    workPins := tab fun o => pinLevel s.setup.outputs[o] s.actionLevels[o] s.evaluated }

/-- R55: the action a delivery applies to condition `c`, in the order DISARM over ARM over UNLATCH. -/
def State.conditionAction (fired : List (Fin 48)) (c : Fin 32) (s : State) : State :=
  match winner s.setup.bindings fired [.condDisarm, .condArm, .condUnlatch] c.val with
  | some .condDisarm => s.onCondition condDisarm c
  | some .condArm => s.onCondition condArm c
  | some .condUnlatch => s.onCondition condUnlatch c
  | _ => s

/-- R73: the action a delivery applies to timer `t`, in the order STOP over START over RESUME. -/
def State.timerAction (fired : List (Fin 48)) (t : Fin 4) (s : State) : State :=
  match winner s.setup.bindings fired [.timerStop, .timerStart, .timerResume] t.val with
  | some .timerStop => s.onTimer timerStop t
  | some .timerStart => s.onTimer timerStart t
  | some .timerResume => s.onTimer timerResume t
  | _ => s

/-- R109: the action a delivery applies to output `o`, in the order SET over CLEAR over TOGGLE. -/
def State.lineAction (fired : List (Fin 48)) (o : Fin 4) (s : State) : State :=
  match winner s.setup.bindings fired [.lineSet, .lineClear, .lineToggle] o.val with
  | some .lineSet => s.onLine .set o
  | some .lineClear => s.onLine .clear o
  | some .lineToggle => s.onLine .toggle o
  | _ => s

/-- R136: the action a delivery applies to unit `k`, in the order ABORT over TRIGGER over ARM. -/
def State.unitAction (fired : List (Fin 48)) (frame : FrameNumber) (word : BitVec 32) (k : Fin 4) (s : State) : State :=
  match winner s.setup.bindings fired [.unitAbort, .unitTrigger, .unitArm] k.val with
  | some .unitAbort => s.abortUnitBy k
  | some .unitTrigger => s.triggerUnitBy k (triggerSource s.setup.bindings fired k) word (some frame)
  | some .unitArm => s.armUnitBy k .action frame
  | _ => s

/-- R136, R152: one unit's part in the work of a frame: its action, then the frame itself. It is one moment: its notices follow each other directly (DESIGN CHOICE, log 25). -/
def State.unitWork (fired : List (Fin 48)) (frame : FrameNumber) (word : BitVec 32) (s : State) (k : Fin 4) : State :=
  (s.unitAction fired frame word k).handleFrame k frame

/-- R181: the notice that LTX carries has gone out. -/
def State.noticeSent (s : State) : State := { s with link := s.link.noticeSent }

/-- The part of a frame's work that other happenings can fall into: the timers `ts` still to apply their actions (R73, R74, R96), the EVENT notices of the bindings `ns` still to be offered (R98, R99), the units `us` still to work (R136, R152). `during` says what comes about, in order; what is left of the work is done at its end. A moment of the work that has passed already is no happening (log 2, log 7). That no EVENT notice, freed notice place or loss of sync falls within one unit's work is the model's choice (DESIGN CHOICE, log 25): R98 and R99 leave it open. -/
def State.interleave (fired : List (Fin 48)) (frame : FrameNumber) (word : BitVec 32) :
    List StreamEvent → List (Fin 4) → List (Fin 48) → List (Fin 4) → State → State
  | [], ts, ns, us, s =>
    us.foldl (State.unitWork fired frame word)
      (ns.foldl (State.offerEvent frame word) (ts.foldl (fun a t => a.timerAction fired t) s))
  | .edge e :: es, ts, ns, us, s => State.interleave fired frame word es ts ns us (s.clock e)
  | .quiet n :: es, ts, ns, us, s => State.interleave fired frame word es ts ns us (s.quiet n)
  | .noticeSent :: es, ts, ns, us, s => State.interleave fired frame word es ts ns us s.noticeSent
  | .timer t :: es, ts, ns, us, s =>
    State.interleave fired frame word es (ts.erase t) ns us (if t ∈ ts then s.timerAction fired t else s)
  | .event :: es, ts, ns, us, s =>
    State.interleave fired frame word es ts ns.tail us ((ns.take 1).foldl (State.offerEvent frame word) s)
  | .unit :: es, ts, ns, us, s =>
    State.interleave fired frame word es ts ns us.tail ((us.take 1).foldl (State.unitWork fired frame word) s)

/-- The delivery of a frame and the units' work on it: the conditions and the outputs apply their actions, and the rest of the work is interleaved with `during` (log 7). -/
def State.deliver (frame : FrameNumber) (delivered : List EventId) (during : List StreamEvent) (s : State) : State :=
  let fired := firedBindings s.setup.bindings delivered s.conditions
  let conditioned := (List.finRange 32).foldl (fun a c => a.conditionAction fired c) s
  let lined := (List.finRange 4).foldl (fun a o => a.lineAction fired o) conditioned
  lined.interleave fired frame (conditionWord s.conditions) during (List.finRange 4) (notifying s.setup.bindings fired)
    (List.finRange 4)

/-- The whole work of the frame `f`. -/
def State.workFrame (f : HeldFrame) (during : List StreamEvent) (s : State) : State :=
  let measured := (s.beginTake f).updateMeasures
  let evaluated := measured.evaluate
  evaluated.deliver f.number (unionIds (frameBorn measured.conditions evaluated.conditions) s.events) during

/-- R16: the engine takes the frame when the stage is FULL; takes occur only while the engine is RUNNING (R53). -/
def execTake (during : List StreamEvent) (s : State) : Host.Outcome State Fault Refusal :=
  match s.engine, s.iface.holding with
  | .running, some f => .next (s.workFrame f during)
  | .running, none => .next s
  | .stopped, _ => .next s

end Sys2Proof.Machine
end

