-- ==== Sys2Proof/Machine/Dispatch.lean ====
section
/-! DEFINITION. One arm for each command: the meaning of every row of the table. -/

namespace Sys2Proof.Machine

/-- The effect of a command on everything but the queue of commands. -/
def exec (i : Instr) (s : State) : Host.Outcome State Fault Refusal :=
  match i with
  | .hardReset cause pins => Sys2Proof.Machine.execHardReset cause pins s
  | .startupSetupRead => Sys2Proof.Machine.execStartupSetupRead s
  | .messageReceived bytes => Sys2Proof.Machine.execMessageReceived bytes s
  | .receiveTimeout periods => Sys2Proof.Machine.execReceiveTimeout periods s
  | .unknownKind => Sys2Proof.Machine.execUnknownKind s
  | .replyPlaced => Sys2Proof.Machine.execReplyPlaced s
  | .transmitComplete => Sys2Proof.Machine.execTransmitComplete s
  | .identify => Sys2Proof.Machine.execIdentify s
  | .status => Sys2Proof.Machine.execStatus s
  | .run => Sys2Proof.Machine.execRun s
  | .stop => Sys2Proof.Machine.execStop s
  | .restart => Sys2Proof.Machine.execRestart s
  | .restartSetupRead => Sys2Proof.Machine.execRestartSetupRead s
  | .saveSetup => Sys2Proof.Machine.execSaveSetup s
  | .saveComplete verified => Sys2Proof.Machine.execSaveComplete verified s
  | .loadSetup => Sys2Proof.Machine.execLoadSetup s
  | .loadComplete => Sys2Proof.Machine.execLoadComplete s
  | .defaultSetup => Sys2Proof.Machine.execDefaultSetup s
  | .setAutorun => Sys2Proof.Machine.execSetAutorun s
  | .setPort => Sys2Proof.Machine.execSetPort s
  | .getPort => Sys2Proof.Machine.execGetPort s
  | .setMeasure => Sys2Proof.Machine.execSetMeasure s
  | .getMeasure => Sys2Proof.Machine.execGetMeasure s
  | .setCondition => Sys2Proof.Machine.execSetCondition s
  | .getCondition => Sys2Proof.Machine.execGetCondition s
  | .armCondition => Sys2Proof.Machine.execArmCondition s
  | .disarmCondition => Sys2Proof.Machine.execDisarmCondition s
  | .unlatchCondition => Sys2Proof.Machine.execUnlatchCondition s
  | .setTimer => Sys2Proof.Machine.execSetTimer s
  | .getTimer => Sys2Proof.Machine.execGetTimer s
  | .startTimer => Sys2Proof.Machine.execStartTimer s
  | .stopTimer => Sys2Proof.Machine.execStopTimer s
  | .resumeTimer => Sys2Proof.Machine.execResumeTimer s
  | .setBinding => Sys2Proof.Machine.execSetBinding s
  | .getBinding => Sys2Proof.Machine.execGetBinding s
  | .fire => Sys2Proof.Machine.execFire s
  | .setLine => Sys2Proof.Machine.execSetLine s
  | .getLines => Sys2Proof.Machine.execGetLines s
  | .driveLine => Sys2Proof.Machine.execDriveLine s
  | .setUnit => Sys2Proof.Machine.execSetUnit s
  | .getUnit => Sys2Proof.Machine.execGetUnit s
  | .armUnit => Sys2Proof.Machine.execArmUnit s
  | .triggerUnit => Sys2Proof.Machine.execTriggerUnit s
  | .abortUnit => Sys2Proof.Machine.execAbortUnit s
  | .listCaptures => Sys2Proof.Machine.execListCaptures s
  | .getCapture => Sys2Proof.Machine.execGetCapture s
  | .readFrames => Sys2Proof.Machine.execReadFrames s
  | .holdCapture => Sys2Proof.Machine.execHoldCapture s
  | .releaseCapture => Sys2Proof.Machine.execReleaseCapture s
  | .setStore => Sys2Proof.Machine.execSetStore s
  | .getStore => Sys2Proof.Machine.execGetStore s
  | .firstSyncEdge edges => Sys2Proof.Machine.execFirstSyncEdge edges s
  | .frameBoundary edges => Sys2Proof.Machine.execFrameBoundary edges s
  | .timerExpire timer edges => Sys2Proof.Machine.execTimerExpire timer edges s
  | .syncLost periods => Sys2Proof.Machine.execSyncLost periods s
  | .syncRegained edges => Sys2Proof.Machine.execSyncRegained edges s
  | .take during => Sys2Proof.Machine.execTake during s
  | .inputAccepted input periods => Sys2Proof.Machine.execInputAccepted input periods s
  | .inputPinChange input level => Sys2Proof.Machine.execInputPinChange input level s
  | .stopBitError byte => Sys2Proof.Machine.execStopBitError byte s

end Sys2Proof.Machine
end

