-- ==== Sys2Proof/WellFormed.lean ====
section
/-! DEFINITION. Which commands describe something that can happen on the pins. A command that fails a check still has a next state; the checks say which commands stand for a physical happening. -/

namespace Sys2Proof

/-- SCK is a clock: its edges alternate (R1, R3). -/
def alternates : List SckEdge → Bool
  | [] => true
  | e :: es =>
    (match es with
      | [] => true
      | e' :: _ => decide (e.edge ≠ e'.edge)) && alternates es

/-- The SCK edges among what comes about during the work of a frame, in order. -/
def sckEdges : List StreamEvent → List SckEdge
  | [] => []
  | .edge e :: es => e :: sckEdges es
  | .quiet _ :: es | .noticeSent :: es | .timer _ :: es | .event :: es | .unit :: es => sckEdges es

/-- A command is well formed when its SCK edges alternate, a reception carries at least one byte, and a stop-bit error carries a byte whose stop bit is low (R175). -/
def Instr.wellFormed : Instr → Bool
  | .messageReceived bytes => !bytes.isEmpty
  | .stopBitError b => !b.stop
  | .firstSyncEdge es => alternates es
  | .frameBoundary es => alternates es
  | .timerExpire _ es => alternates es
  | .syncRegained es => alternates es
  | .take es => alternates (sckEdges es)
  | .hardReset _ _ => true
  | .startupSetupRead => true
  | .receiveTimeout _ => true
  | .unknownKind => true
  | .replyPlaced => true
  | .transmitComplete => true
  | .identify => true
  | .status => true
  | .run => true
  | .stop => true
  | .restart => true
  | .restartSetupRead => true
  | .saveSetup => true
  | .saveComplete _ => true
  | .loadSetup => true
  | .loadComplete => true
  | .defaultSetup => true
  | .setAutorun => true
  | .setPort => true
  | .getPort => true
  | .setMeasure => true
  | .getMeasure => true
  | .setCondition => true
  | .getCondition => true
  | .armCondition => true
  | .disarmCondition => true
  | .unlatchCondition => true
  | .setTimer => true
  | .getTimer => true
  | .startTimer => true
  | .stopTimer => true
  | .resumeTimer => true
  | .setBinding => true
  | .getBinding => true
  | .fire => true
  | .setLine => true
  | .getLines => true
  | .driveLine => true
  | .setUnit => true
  | .getUnit => true
  | .armUnit => true
  | .triggerUnit => true
  | .abortUnit => true
  | .listCaptures => true
  | .getCapture => true
  | .readFrames => true
  | .holdCapture => true
  | .releaseCapture => true
  | .setStore => true
  | .getStore => true
  | .syncLost _ => true
  | .inputAccepted _ _ => true
  | .inputPinChange _ _ => true

end Sys2Proof
end

