-- ==== Sys2Proof/Safety.lean ====
section
/-! DEFINITION. What the statements say about states: when a request may be carried out, and the properties every step keeps. -/

namespace Sys2Proof.Machine

/-- The dispatcher may check and carry out, now, a request of kind `kind` with payload `payload` (R177). -/
def Serves (s : State) (kind : Byte) (payload : List Byte) : Prop :=
  ∃ tag, s.current = some { kind := kind, tag := tag, payload := payload }

/-! ### The words of the store, the pending events, the link -/

/-- The capture store's words are in canonical form (log 13). -/
def MemoryCanonical (s : State) : Prop := Memory.wf s.store.mem = true

/-- R84: the pending event set holds each id at most once; the model lists the ids rising. -/
def EventsAreASet (s : State) : Prop := s.events.Pairwise fun a b => a.val < b.val

/-- R181, R182: an idle transmitter has nothing to send; a busy one sends the oldest reply or the oldest notice as it was placed. -/
def Link.sending (l : Link) : Prop :=
  match l.transmitter with
  | .idle => l.replies = [] ∧ l.notices = []
  | .sendingReply bytes => ∃ r rest, l.replies = r :: rest ∧ bytes = r.wire
  | .sendingNotice bytes => ∃ n rest, l.notices = n :: rest ∧ bytes = n.wire

/-- R176, R180, R183, R177, R182: the queues hold what they can hold, the dispatcher is IDLE exactly when no request waits, and the transmitter sends the oldest entry of a queue. -/
structure LinkConsistent (s : State) : Prop where
  requests   : s.link.requests.length ≤ 2
  replies    : s.link.replies.length ≤ 4
  notices    : s.link.notices.length ≤ 16
  dispatcher : s.link.dispatcher = .idle ↔ s.link.requests = []
  sending    : s.link.sending

/-! ### The capture store and the index -/

/-- R120: a unit in IDLE has its working record cleared. -/
def IdleUnitsCleared (s : State) : Prop := ∀ k : Fin 4, s.units[k].phase = .idle → s.units[k] = clearedUnit

/-- R149: each page is in exactly one condition: free, held by one unit, or held by one record. With it, what the rules of the units rest on: an IDLE unit holds nothing, and an armed one has no post page. -/
structure PagesPartitioned (s : State) : Prop where
  partition : List.Perm (s.store.free ++ s.unitPages ++ s.recordPages) allPages
  idle      : IdleUnitsCleared s
  armed     : ∀ k : Fin 4, s.units[k].phase = .filling ∨ s.units[k].phase = .armed → s.units[k].postPages = []

/-- R153: the state is LOW when the free count is below the mark, and NORMAL otherwise. -/
def LowWaterTrue (s : State) : Prop := s.store.low = lowState s.store.free.length s.setup.store.lowWater

/-- R155, R157: at most 32 records, no two with the same id, none with id 0; the next capture id is not 0. -/
structure IndexConsistent (s : State) : Prop where
  count  : s.store.index.length ≤ 32
  ids    : (s.store.index.map CaptureRecord.id).Nodup
  noZero : ∀ r ∈ s.store.index, r.id ≠ 0
  next   : s.store.nextId ≠ 0

/-! ### The engine -/

/-- R189, R9, R3: what is at rest while the engine is STOPPED, and what a run has. The last three clauses say that the setup is not replaced during a run. -/
structure EngineConsistent (s : State) : Prop where
  units      : s.engine = .stopped → ∀ k : Fin 4, s.units[k].phase = .idle
  conditions : s.engine = .stopped → ∀ c : Fin 32, s.conditions[c].phase = .disarmed
  timers     : s.engine = .stopped → ∀ t : Fin 4, s.timers[t].phase = .idle
  events     : s.engine = .stopped → s.events = []
  iface      : s.engine = .stopped → s.iface.state = .off ∧ s.iface.holding = none ∧ s.iface.syncTimer = none
  runNumber  : s.engine = .running → s.runNumber ≠ 0
  receiving  : s.engine = .running → s.iface.state ≠ .off
  provider   : s.setup.interface.source = .provider →
    s.iface.syncTimer = none ∧ s.iface.state ≠ .lost ∧ s.iface.state ≠ .seeking
  startup    : s.startup ≠ none → s.link.dispatcher = .idle ∨ s.link.dispatcher = .executing .begun
  reloading  : s.startup ≠ none ∨ s.link.dispatcher = .executing .restarting ∨ s.link.dispatcher = .waiting .loading →
    s.engine = .stopped

/-! ### Ranges -/

/-- R4: the ranges of a port's fields. -/
def PortSetup.InRange (p : PortSetup) : Prop := 1 ≤ p.slots ∧ p.slots ≤ 8 ∧ p.width.bits ≤ p.pitch.bits

/-- R4: the ranges of the interface's fields. -/
def InterfaceSetup.InRange (i : InterfaceSetup) : Prop :=
  2 ≤ i.divider ∧ i.divider ≤ 64 ∧ i.divider % 2 = 0 ∧ 32 ≤ i.frameLength ∧ i.frameLength ≤ 512
    ∧ 1 ≤ i.syncLossMs ∧ i.syncLossMs ≤ 255

/-- R25. -/
def MeasureSetup.InRange (m : MeasureSetup) : Prop := 1 ≤ m.window ∧ m.window ≤ 4096

/-- R44, R45. -/
def ConditionSetup.InRange (c : ConditionSetup) : Prop :=
  c.hysteresis ≤ 65535 ∧ 1 ≤ c.qualify ∧ c.qualify ≤ 255 ∧ 1 ≤ c.release ∧ c.release ≤ 255
    ∧ (c.test = .outside ∨ c.test = .inside → c.lower.toInt ≤ c.upper.toInt)

/-- R67. -/
def TimerSetup.InRange (t : TimerSetup) : Prop := 1 ≤ t.period ∧ t.period ≤ 16777215

/-- R91, R92: the target lies in the range of the action. -/
def Binding.InRange (b : Binding) : Prop := b.target ≤ b.action.maxTarget

/-- R118. -/
def UnitSetup.InRange (u : UnitSetup) : Prop := u.mask ≠ 0 ∧ u.pre ≤ 4095 ∧ 1 ≤ u.post ∧ u.post ≤ 65535

/-- Every field of a setup in its range, and the PROVIDER check of R8 satisfied. -/
structure Setup.InRange (u : Setup) : Prop where
  portA      : u.portA.InRange
  portB      : u.portB.InRange
  interface  : u.interface.InRange
  fits       : u.providerFits = true
  measures   : ∀ m : Fin 16, u.measures[m].InRange
  conditions : ∀ c : Fin 32, u.conditions[c].InRange
  timers     : ∀ t : Fin 4, u.timers[t].InRange
  bindings   : ∀ b : Fin 48, u.bindings[b].InRange
  filters    : ∀ i : Fin 2, u.filters[i] ≤ 255
  units      : ∀ k : Fin 4, u.units[k].InRange
  store      : u.store.lowWater ≤ 255

/-- The working setup, a VALID image and the copy that a save writes hold only values in range. -/
structure SetupsInRange (s : State) : Prop where
  working : s.setup.InRange
  image   : s.image.state = .valid → s.image.contents.InRange
  copy    : ∀ copy, s.link.dispatcher = .waiting (.saving copy) → copy.InRange

/-- R68: the count of a timer, by its state and direction. -/
def TimerInRange (u : TimerSetup) (t : TimerState) : Prop :=
  t.count ≤ u.period ∧
    (t.phase ≠ .idle → match u.direction with
      | .down => 1 ≤ t.count
      | .up => t.count < u.period)

/-- R46: the run count of a condition, by its state. -/
def ConditionInRange (u : ConditionSetup) (c : ConditionState) : Prop :=
  match c.phase with
  | .disarmed => c.runCount = 0
  | .watching => c.runCount < u.qualify
  | .asserted => c.runCount < u.release ∧ (u.latched = true → c.runCount = 0)

/-- R26, R29: the window position and the accumulators of a measure. -/
def MeasureInRange (u : MeasureSetup) (m : MeasureState) : Prop :=
  m.position < u.window ∧ (u.kind.perFrame = true → m.position = 0)
    ∧ (m.position = 0 → m.largest = 0 ∧ m.smallest = 0 ∧ m.sum = 0)
    ∧ -(8388608 * m.position) ≤ m.sum ∧ m.sum ≤ 8388608 * (m.position : Int)

/-- R111, R115: a hold measurement runs exactly while the pin differs from the filtered level, and it has not reached the filter time. -/
def InputInRange (filter : Nat) (i : InputState) : Prop :=
  match i.hold with
  | none => i.pin = i.filtered
  | some time => i.pin ≠ i.filtered ∧ filterReached time filter = false

/-- The runtime state of the tables lies in the ranges of R26, R46, R68 and R111. -/
structure TablesInRange (s : State) : Prop where
  timers     : ∀ t : Fin 4, TimerInRange s.setup.timers[t] s.timers[t]
  conditions : ∀ c : Fin 32, ConditionInRange s.setup.conditions[c] s.conditions[c]
  measures   : ∀ m : Fin 16, MeasureInRange s.setup.measures[m] s.measures[m]
  inputs     : ∀ i : Fin 2, InputInRange s.setup.filters[i] s.inputs[i]

/-- R120, R125, R127, R130: a unit that is not IDLE, under its setup. -/
structure UnitInRange (setup : UnitSetup) (u : UnitState) : Prop where
  prePages : u.prePages.length = ringPages setup.mask setup.pre
  history  : u.historyCount ≤ setup.pre
  frames   : u.ringFrames.length = u.historyCount
  head     : if u.historyCount < setup.pre then u.ringHead = u.historyCount else u.ringHead = 0 ∨ u.ringHead < setup.pre
  filling  : u.phase = .filling → u.historyCount < setup.pre
  armed    : u.phase = .armed → u.historyCount = setup.pre
  preCount : u.phase = .post → u.preCount = u.historyCount
  post     : u.phase = .post → 1 ≤ u.remaining ∧ u.remaining ≤ 65535
  posts    : u.postCount ≤ framesPerPage setup.mask * u.postPages.length

/-- R139: a record's pages hold its frames. -/
structure RecordInRange (r : CaptureRecord) : Prop where
  mask  : r.mask ≠ 0
  pre   : r.preCount ≤ r.pre
  head  : if r.preCount < r.pre then r.ringHead = r.preCount else r.ringHead = 0 ∨ r.ringHead < r.pre
  pages : ringPages r.mask r.pre ≤ r.pages.length
  posts : r.postCount ≤ framesPerPage r.mask * (r.pages.length - ringPages r.mask r.pre)

/-- The working records and the index records lie in the ranges of R120, R125, R130 and R139. -/
structure CapturesInRange (s : State) : Prop where
  units   : ∀ k : Fin 4, s.units[k].phase ≠ .idle → UnitInRange s.setup.units[k] s.units[k]
  records : ∀ r ∈ s.store.index, RecordInRange r

/-! ### What a take works on -/

/-- R27: the measures after frame `f` is taken. -/
def State.measuresAt (s : State) (f : HeldFrame) : Vector MeasureState 16 :=
  tab fun m => updateMeasure s.setup.measures[m] (laneVector s.setup f) s.measures[m]

/-- R49: the conditions after the evaluation of frame `f`, before any action of its delivery. -/
def State.conditionsAt (s : State) (f : HeldFrame) : Vector ConditionState 32 :=
  tab fun c =>
    evalCondition s.setup.conditions[c] (s.measuresAt f)[s.setup.conditions[c].measure] s.conditions[c]

/-- R87: the delivered set of frame `f`: the pending ids and the frame-born ones. -/
def State.deliveredAt (s : State) (f : HeldFrame) : List EventId :=
  unionIds (frameBorn s.conditions (s.conditionsAt f)) s.events

/-- R94: the bindings that fire in the delivery of frame `f`. -/
def State.firedAt (s : State) (f : HeldFrame) : List (Fin 48) :=
  firedBindings s.setup.bindings (s.deliveredAt f) (s.conditionsAt f)

/-- R95: an action of kind `a` reaches target `target` in a delivery. -/
def Reaches (s : State) (fired : List (Fin 48)) (a : Action) (target : Nat) : Prop :=
  ∃ b ∈ fired, s.setup.bindings[b].action = a ∧ s.setup.bindings[b].target = target

/-- R193: `t` is `s` with the setup replaced as a whole by `u`, taken up by every block, the engine being STOPPED. -/
structure TakenUp (u : Setup) (s t : State) : Prop where
  setup    : t.setup = u
  measures : ∀ m : Fin 16, t.measures[m] = clearedMeasure
  timers   : ∀ k : Fin 4, t.timers[k] = { s.timers[k] with count := 0 }
  store    : t.store = { s.store with low := lowState s.store.free.length u.store.lowWater }
  inputs   : ∀ i : Fin 2, t.inputs[i] =
    match s.inputs[i].hold with
    | none => s.inputs[i]
    | some time =>
      if filterReached time u.filters[i] then { s.inputs[i] with filtered := s.inputs[i].pin, hold := none }
      else s.inputs[i]
  rest     : { t with setup := s.setup, measures := s.measures, timers := s.timers, store := s.store, inputs := s.inputs } = s

/-- R122 to R124: `t` is what ARM from `cause` leaves of `s`: a unit that is not IDLE is unchanged; an IDLE one takes the pages of its ring when they are free, and is otherwise left IDLE with an ARM_FAILED notice. -/
def ArmedOrReported (k : Fin 4) (cause : ArmCause) (frame : FrameNumber) (s t : State) : Prop :=
  ∀ needed, needed = ringPages s.setup.units[k].mask s.setup.units[k].pre →
    (s.units[k].phase ≠ .idle → t = s)
    ∧ (s.units[k].phase = .idle → needed ≤ s.store.free.length →
        t =
          { s with
            units := put s.units k
              { clearedUnit with
                phase := if s.setup.units[k].pre = 0 then .armed else .filling
                prePages := s.store.free.take needed }
            store := { s.store with
              free := s.store.free.drop needed
              low := if s.store.free.length - needed < s.setup.store.lowWater then .low else .normal }
            events :=
              if s.engine = .running ∧ s.setup.store.lowWater ≤ s.store.free.length
                  ∧ s.store.free.length - needed < s.setup.store.lowWater then
                insertId evStoreLow s.events
              else s.events })
    ∧ (s.units[k].phase = .idle → s.store.free.length < needed →
        t = { s with link := s.link.offerNotice (.armFailed k cause s.runNumber frame needed s.store.free.length) })

/-! ### Commands by what they may write -/

/-- The commands that may write the working setup (R193). -/
def writesSetup : Instr → Bool
  | .hardReset _ _ | .startupSetupRead | .restartSetupRead | .loadComplete | .defaultSetup | .setAutorun | .setPort
  | .setMeasure | .setCondition | .setTimer | .setBinding | .setLine | .setUnit | .setStore => true
  | _ => false

/-- The byte `b` as it comes on a quiet line: start bit after a high level, data bits with the least significant first, good stop bit (R171). -/
def goodByte (b : Byte) : LrxByte := { high := true, bits := byteBits b, stop := true }

/-! ### A frame boundary -/

/-- A sync edge falls at `e` while a frame is in progress (R1, R13). -/
def SyncEdgeInFrame (s : State) (e : SckEdge) : Prop :=
  s.iface.state = .receiving ∧ s.iface.firstFsyDue = false ∧ e.edge = s.setup.portA.edge ∧ s.iface.lastFsy = false
    ∧ (match s.setup.interface.source with | .follower => e.fsy = true | .provider => s.iface.fsyPhase = 0)

/-- R8, R13: an enabled port received fewer bits than slot count × pitch + frame delay. -/
def ShortPort (p : PortSetup) (bits : List Bool) : Prop :=
  p.enabled = true ∧ bits.length < p.slots * p.pitch.bits + (if p.delay then 1 else 0)

/-- What every frame boundary does (R13, R69): the frame number increases, the timers advance and their expiries enter the pending event set, and the same edge starts the next frame. -/
structure BoundaryPassed (s : State) (e : SckEdge) (t : State) : Prop where
  frameNumber : t.iface.frameNumber = s.iface.frameNumber + 1
  state       : t.iface.state = .receiving
  timers      : ∀ k : Fin 4, t.timers[k] = timerAdvance s.setup.timers[k] s.timers[k]
  expiries    : s.engine = .running → ∀ k : Fin 4, timerDue s.setup.timers[k] s.timers[k] = true → evExpire k ∈ t.events
  kept        : ∀ id, id ∈ s.events → id ∈ t.events
  shiftA      : t.iface.shiftA = (if s.setup.portA.enabled then [e.sda] else [])
  shiftB      : t.iface.shiftB =
    (if s.setup.portB.enabled = true ∧ s.setup.portB.edge = s.setup.portA.edge then [e.sdb] else [])
  rest        : { t with iface := s.iface, timers := s.timers, events := s.events, link := s.link } = s

end Sys2Proof.Machine
end

