-- ==== Sys2Proof/Certificates/Slice0/Obligations.lean ====
section
/-! DEFINITION. The statements about the KJ416 for the provers. A command row carries out the request in front of the request queue (log 3), so a statement about a request says what `exec` of its row answers when the dispatcher may carry it out (`Serves`): the state the request leaves, with the answer settled in the reply queue. -/

section Slice0

open Sys2Proof Sys2Proof.Machine

/-! ### The queue of commands -/

/-- A step of a state with command `c` in front of its queue is `exec c` on the state with the queue's rest. That commands come from one queue, first in, first out, is the model's (log 1). -/
def Obligations.StepRunsTheCommandInFront : Prop :=
  ∀ (c : Instr) (s : State), step { s with pending := c :: s.pending } = exec c s

/-- Every command has a next state in every state, and leaves the waiting commands alone. That a command whose happening cannot occur changes nothing is the model's (log 2). -/
def Obligations.EveryCommandHasANextState : Prop :=
  ∀ (c : Instr) (s : State), ∃ t : State, exec c s = .next t ∧ t.pending = s.pending

/-! ### Who may write what -/

/-- The words of the capture store change only in the work of a taken frame and at a hard reset. The stored image changes only when a save begins or ends; a hard reset keeps it. The working setup changes only by the requests that write it, the reloads and a hard reset. The run number counts runs: it changes only when a run starts, to the next number after it and never to 0, and at a hard reset. -/
def Obligations.WordsImageSetupAndRunNumberHaveTheirWriters : Prop :=
  (∀ (c : Instr) (s t : State), exec c s = .next t → (∀ d, c ≠ .take d) → (∀ cause pins, c ≠ .hardReset cause pins) →
      ∀ a, Memory.read t.store.mem a = Memory.read s.store.mem a)
  ∧ (∀ (c : Instr) (s t : State), exec c s = .next t → c ≠ .saveSetup → (∀ v, c ≠ .saveComplete v) → t.image = s.image)
  ∧ (∀ (c : Instr) (s t : State), exec c s = .next t → writesSetup c = false → t.setup = s.setup)
  ∧ (∀ (c : Instr) (s t : State), exec c s = .next t → (∀ cause pins, c ≠ .hardReset cause pins) →
      t.runNumber = s.runNumber
        ∨ (c = .run ∨ c = .restartSetupRead ∨ c = .startupSetupRead) ∧ t.engine = .running
          ∧ t.runNumber = (if s.runNumber = 65535#16 then 1#16 else s.runNumber + 1#16))

/-! ### Invariants -/

/-- Every step keeps the words of the capture store in canonical form (the model's own form, log 13). -/
def Obligations.StepKeepsMemoryCanonical : Prop :=
  ∀ s t : State, MemoryCanonical s → step s = .next t → MemoryCanonical t

/-- Every step keeps the pending event set a set. Every step keeps the low-water state true to the free count and the mark. Every step keeps the index at 32 records or fewer, with ids that are distinct and not 0. -/
def Obligations.StepKeepsEventsLowWaterAndIndex : Prop :=
  (∀ s t : State, EventsAreASet s → step s = .next t → EventsAreASet t)
  ∧ (∀ s t : State, LowWaterTrue s → step s = .next t → LowWaterTrue t)
  ∧ (∀ s t : State, IndexConsistent s → step s = .next t → IndexConsistent t)

/-- Every step keeps the bounds of the link's queues, the dispatcher in step with the request queue and the transmitter in step with what waits. -/
def Obligations.StepKeepsLinkConsistent : Prop :=
  ∀ s t : State, LinkConsistent s → step s = .next t → LinkConsistent t

/-- Every step keeps each of the 256 pages in exactly one condition, and an IDLE unit's working record cleared. That a cleared record has no trigger frame, source, word and first frame is the model's (log 17). -/
def Obligations.StepKeepsPagesPartitioned : Prop :=
  ∀ s t : State, PagesPartitioned s → step s = .next t → PagesPartitioned t

/-- Every step keeps what is at rest while the engine is STOPPED at rest. The stages of the dispatcher that the last two clauses speak of are the model's reading (log 16) of R196, R198 and R199. -/
def Obligations.StepKeepsEngineConsistent : Prop :=
  ∀ s t : State, EngineConsistent s → step s = .next t → EngineConsistent t

/-- Every step keeps every field of the working setup, of a VALID image and of the copy being saved in its range. -/
def Obligations.StepKeepsSetupsInRange : Prop :=
  ∀ s t : State, SetupsInRange s → step s = .next t → SetupsInRange t

/-- Every step keeps the runtime state of timers, conditions, measures and inputs in range. -/
def Obligations.StepKeepsTablesInRange : Prop :=
  ∀ s t : State, EngineConsistent s → SetupsInRange s → TablesInRange s → step s = .next t → TablesInRange t

/-- Every step keeps the working records and the index records consistent with the pages they hold. -/
def Obligations.StepKeepsCapturesInRange : Prop :=
  ∀ s t : State, EngineConsistent s → SetupsInRange s → PagesPartitioned s → CapturesInRange s → step s = .next t →
    CapturesInRange t

/-- The state right after reset has every invariant. Its power-on cause, its pins and its never-written image are the model's (log 5), as are the empty list of words (log 13), the trigger fields of a cleared record (log 17) and the values of log 18. -/
def Obligations.ResetHasEveryInvariant : Prop :=
  MemoryCanonical State.reset ∧ EventsAreASet State.reset ∧ LinkConsistent State.reset ∧ PagesPartitioned State.reset
    ∧ LowWaterTrue State.reset ∧ IndexConsistent State.reset ∧ EngineConsistent State.reset
    ∧ SetupsInRange State.reset ∧ TablesInRange State.reset ∧ CapturesInRange State.reset

/-- The frames of a record of the index read the same after any command that leaves the record there. For a TAKE the record must be one that no close of that frame's work can replace: held, under KEEP_OLD, or in an index with room for a close of every unit. -/
def Obligations.RecordsKeepTheirFrames : Prop :=
  ∀ (c : Instr) (s t : State) (r : CaptureRecord), MemoryCanonical s → PagesPartitioned s → CapturesInRange s →
    exec c s = .next t → r ∈ s.store.index → r ∈ t.store.index →
    (∀ during, c = .take during → r.held = true ∨ s.setup.store.policy = .keepOld ∨ s.store.index.length + 4 ≤ 32) →
    ∀ k, k < r.frames → t.store.frameAt r k = s.store.frameAt r k

/-! ### Messages and setups: what is sent is what is read -/

/-- A good message on the line joins the request queue as the kind, tag and payload it was made from. That a row carries the bytes of LRX with what the line did before each is the model's spelling (log 15). -/
def Obligations.GoodMessageJoinsTheRequestQueue : Prop :=
  ∀ (s : State) (kind tag : Byte) (payload : List Byte), payload.length ≤ 248 →
    s.link.receiver.state = .hunt → s.link.requests.length < 2 →
    exec (.messageReceived ((wire kind tag payload).map goodByte)) s =
      .next
        { s with
          link :=
            { s.link with
              receiver := { state := .hunt, awaitHigh := false, gap := 0 }
              requests := s.link.requests ++ [{ kind := kind, tag := tag, payload := payload }]
              dispatcher := if s.link.dispatcher = .idle then .executing .begun else s.link.dispatcher } }

/-- The setup fields of a request are accepted exactly when they are the encoding of a setup in range. -/
def Obligations.SetupFieldsReadExactly : Prop :=
  (∀ (fields : List Byte) (u : PortSetup), readPort fields = some u ↔ u.InRange ∧ fields = u.bytes)
    ∧ (∀ (fields : List Byte) (u : InterfaceSetup), readInterface fields = some u ↔ u.InRange ∧ fields = u.bytes)
    ∧ (∀ (fields : List Byte) (u : MeasureSetup), readMeasure fields = some u ↔ u.InRange ∧ fields = u.bytes)
    ∧ (∀ (fields : List Byte) (u : ConditionSetup), readCondition fields = some u ↔ u.InRange ∧ fields = u.bytes)
    ∧ (∀ (fields : List Byte) (u : TimerSetup), readTimer fields = some u ↔ u.InRange ∧ fields = u.bytes)
    ∧ (∀ (fields : List Byte) (u : Binding), readBinding fields = some u ↔ u.InRange ∧ fields = u.bytes)
    ∧ (∀ (fields : List Byte) (u : OutputSetup), readOutput fields = some u ↔ fields = u.bytes)
    ∧ (∀ (fields : List Byte) (u : UnitSetup), readUnit fields = some u ↔ u.InRange ∧ fields = u.bytes)
    ∧ (∀ (fields : List Byte) (u : StoreSetup), readStore fields = some u ↔ u.lowWater ≤ 255 ∧ fields = u.bytes)

/-! ### The receiver and the queues of the link -/

/-- R176: a message that finds the request queue full is refused with OVERRUN while the reply queue has a place and start-up is over, and otherwise dropped and counted. -/
def Obligations.MessageAtAFullQueueIsRefused : Prop :=
  ∀ (s : State) (kind tag : Byte) (payload : List Byte), payload.length ≤ 248 →
    s.link.receiver.state = .hunt → s.link.requests.length = 2 → s.link.replies.length ≤ 4 →
    ∃ t : State, exec (.messageReceived ((wire kind tag payload).map goodByte)) s = .next t
      ∧ t = { s with link := t.link } ∧ t.link.requests = s.link.requests ∧ t.link.notices = s.link.notices
      ∧ (s.startup = none ∧ s.link.replies.length < 4 →
          t.link.replies = s.link.replies
            ++ [{ kind := if kind.toNat < 0x80 then kind + 0x80 else 0xFF, tag := tag, status := .overrun, data := [] }]
          ∧ t.link.overrunDrops = s.link.overrunDrops)
      ∧ (s.startup ≠ none ∨ s.link.replies.length = 4 →
          t.link.replies = s.link.replies ∧ t.link.overrunDrops = satInc s.link.overrunDrops)

/-- R175: a length byte outside 2 to 250 discards the message, is counted, and the receiver hunts again. R175: a second check byte that completes a check differing from the computed one discards the message and is counted as a check error. R175, R171: a byte whose stop bit is sampled low is one framing error, the message in progress is discarded, and no further byte is taken until LRX has been high. R175: more than 10 ms without a byte fails the message in progress; in HUNT no timeout is measured. `periods` counts the 24.576 MHz time base (log 11). That a byte carries whether the line was high before it is the model's spelling (log 15). -/
def Obligations.ReceiverFailuresAreCounted : Prop :=
  (∀ (s : State) (b : Byte), s.link.receiver.state = .length → (b.toNat < 2 ∨ 250 < b.toNat) →
      exec (.messageReceived [goodByte b]) s =
        .next
          { s with
            link :=
              { s.link with
                receiver := { state := .hunt, awaitHigh := false, gap := 0 }
                lengthErrors := satInc s.link.lengthErrors } })
  ∧ (∀ (s : State) (len : Nat) (body : List Byte) (low high : Byte),
      s.link.receiver.state = .check len body (some low) →
      (check (BitVec.ofNat 8 len :: body)).toNat ≠ low.toNat + 256 * high.toNat →
      exec (.messageReceived [goodByte high]) s =
        .next
          { s with
            link :=
              { s.link with
                receiver := { state := .hunt, awaitHigh := false, gap := 0 }
                checkErrors := satInc s.link.checkErrors } })
  ∧ (∀ (s : State) (b : LrxByte), b.stop = false →
      (b.high = true ∨ s.link.receiver.awaitHigh = false →
        exec (.messageReceived [b]) s =
          .next
            { s with
              link :=
                { s.link with
                  receiver := { state := .hunt, awaitHigh := true, gap := 0 }
                  framingErrors := satInc s.link.framingErrors } })
      ∧ (b.high = true ∨ s.link.receiver.awaitHigh = false →
        exec (.stopBitError b) s =
          .next
            { s with
              link :=
                { s.link with
                  receiver := { state := .hunt, awaitHigh := true, gap := 0 }
                  framingErrors := satInc s.link.framingErrors } })
      ∧ (s.link.receiver.awaitHigh = true ∧ b.high = false →
        exec (.messageReceived [b]) s = .next s ∧ exec (.stopBitError b) s = .next s))
  ∧ (∀ (s : State) (periods : Nat),
      (s.link.receiver.state = .hunt → exec (.receiveTimeout periods) s = .next s)
      ∧ (s.link.receiver.state ≠ .hunt → 245760 < s.link.receiver.gap + periods →
        exec (.receiveTimeout periods) s =
          .next
            { s with
              link :=
                { s.link with
                  receiver := { s.link.receiver with state := .hunt, gap := 0 }
                  timeouts := satInc s.link.timeouts } }))

/-- R178, R180: the answer to the request in front becomes one reply with the kind plus 0x80 (0xFF from 0x80 on) and the tag of the request; it is placed and the request removed, or it is held while four replies wait. R180: a held reply is placed, and its request removed, once the reply queue has a place; until then the dispatcher holds. -/
def Obligations.RepliesArePlacedOrHeld : Prop :=
  (∀ (s : State) (a : Answer) (q : Request) (rest : List Request), s.link.requests = q :: rest →
      ∃ r : Reply, r.tag = q.tag ∧ r.status = a.status ∧ r.data = a.data
        ∧ r.kind = (if q.kind.toNat < 0x80 then q.kind + 0x80 else 0xFF)
        ∧ (s.link.replies.length < 4 →
            s.answer a = { s with link := (s.answer a).link }
            ∧ (s.answer a).link.replies = s.link.replies ++ [r]
            ∧ (s.answer a).link.requests = rest
            ∧ (s.answer a).link.notices = s.link.notices
            ∧ (s.answer a).link.receiver = s.link.receiver
            ∧ (s.answer a).link.dispatcher = (if rest = [] then .idle else .executing .begun))
        ∧ (4 ≤ s.link.replies.length →
            s.answer a = { s with link := { s.link with dispatcher := .executing (.holding r) } }))
  ∧ (∀ (s : State) (r : Reply) (q : Request) (rest : List Request),
      s.link.dispatcher = .executing (.holding r) → s.link.requests = q :: rest →
      (s.link.replies.length < 4 →
        ∃ t : State, exec .replyPlaced s = .next t ∧ t = { s with link := t.link }
          ∧ t.link.replies = s.link.replies ++ [r] ∧ t.link.requests = rest ∧ t.link.notices = s.link.notices
          ∧ t.link.dispatcher = (if rest = [] then .idle else .executing .begun))
      ∧ (4 ≤ s.link.replies.length → exec .replyPlaced s = .next s))

/-- R181, R182: when a message has gone out its entry is removed, and the oldest reply is sent next, else the oldest notice, else the transmitter is idle. R171: LTX carries each byte as a low start bit, eight data bits with the least significant first and a high stop bit, and rests high. R172, R173: a message is the start byte, the length, kind, tag, payload and check. R199, R98, R19, R186, R158, R123: the bytes of each notice. -/
def Obligations.TransmitterRemovesAndChooses : Prop :=
  (∀ (s : State) (replies : List Reply) (notices : List Notice),
    ((∃ b, s.link.transmitter = .sendingReply b) ∧ replies = s.link.replies.tail ∧ notices = s.link.notices
      ∨ (∃ b, s.link.transmitter = .sendingNotice b) ∧ replies = s.link.replies ∧ notices = s.link.notices.tail) →
    ∃ t : State, exec .transmitComplete s = .next t ∧ t = { s with link := t.link }
      ∧ t.link = { s.link with replies := replies, notices := notices, transmitter := t.link.transmitter }
      ∧ (∀ r rest, replies = r :: rest → t.link.transmitter = .sendingReply r.wire)
      ∧ (∀ n rest, replies = [] → notices = n :: rest → t.link.transmitter = .sendingNotice n.wire)
      ∧ (replies = [] → notices = [] → t.link.transmitter = .idle)
      ∧ (∀ r rest, replies = r :: rest → t.link.transmitter.levels = r.wire.flatMap byteFrame)
      ∧ (∀ n rest, replies = [] → notices = n :: rest → t.link.transmitter.levels = n.wire.flatMap byteFrame)
      ∧ (replies = [] → notices = [] → ∀ bitTimes, t.ltx bitTimes = true))
  ∧ (∀ b : Byte, byteFrame b =
      [false, b.getLsbD 0, b.getLsbD 1, b.getLsbD 2, b.getLsbD 3, b.getLsbD 4, b.getLsbD 5, b.getLsbD 6, b.getLsbD 7, true])
  ∧ (∀ (s : State) (bitTimes : Nat), s.link.transmitter.levels.length ≤ bitTimes → s.ltx bitTimes = true)
  ∧ (∀ (s : State) (bitTimes : Nat), bitTimes < s.link.transmitter.levels.length →
      s.link.transmitter.levels[bitTimes]? = some (s.ltx bitTimes))
  ∧ (∀ (kind tag : Byte) (payload : List Byte), ∃ low high : Byte,
      wire kind tag payload =
        0xC3 :: BitVec.ofNat 8 (payload.length + 2) :: kind :: tag :: payload ++ [low, high]
      ∧ low.toNat + 256 * high.toNat = (check (BitVec.ofNat 8 (payload.length + 2) :: kind :: tag :: payload)).toNat)
  ∧ (∀ (b : Fin 48) (source : EventId) (run : RunNumber) (frame : FrameNumber) (word : BitVec 32),
      (Notice.event b source run frame word).wire =
        wire 0x61 0 ([BitVec.ofNat 8 b.val, BitVec.ofNat 8 source.val] ++ leBytes 2 run.toNat ++ leBytes 5 frame.toNat
          ++ leBytes 4 word.toNat))
  ∧ (∀ (fault : StreamFault) (shortA shortB : Bool) (run : RunNumber) (frame : FrameNumber),
      (Notice.streamFault fault shortA shortB run frame).wire =
        wire 0x62 0 ([((match fault with | .short => 0 | .overrun => 1 | .lost => 2 | .regained => 3) : Byte),
            (match shortA, shortB with | false, false => 0 | true, false => 1 | false, true => 2 | true, true => 3)]
          ++ leBytes 2 run.toNat ++ leBytes 5 frame.toNat))
  ∧ (∀ (id : CaptureId) (k : Fin 4) (run : RunNumber) (flags : CaptureFlags) (trigger : FrameNumber) (pre post : Nat),
      (Notice.captureClosed id k run flags trigger pre post).wire =
        wire 0x63 0 (leBytes 2 id.toNat ++ [BitVec.ofNat 8 k.val] ++ leBytes 2 run.toNat ++ [flags.toByte]
          ++ leBytes 5 trigger.toNat ++ leBytes 2 pre ++ leBytes 3 post))
  ∧ (∀ (reason : DropReason) (id : CaptureId) (k : Fin 4) (run : RunNumber),
      (Notice.captureDropped reason id k run).wire =
        wire 0x64 0 (((match reason with | .storeFull => 0 | .indexFull => 1 | .replaced => 2) : Byte) :: leBytes 2 id.toNat
          ++ [BitVec.ofNat 8 k.val] ++ leBytes 2 run.toNat))
  ∧ (∀ (k : Fin 4) (cause : ArmCause) (run : RunNumber) (frame : FrameNumber) (needed free : Nat),
      (Notice.armFailed k cause run frame needed free).wire =
        wire 0x65 0 ([BitVec.ofNat 8 k.val, 0, (match cause with | .action => 0 | .autoRearm => 1 | .armAtRun => 2)]
          ++ leBytes 2 run.toNat ++ leBytes 5 frame.toNat ++ [BitVec.ofNat 8 needed] ++ leBytes 2 free))
  ∧ (∀ (cause : ReadyCause) (source : SetupSource) (generation : BitVec 32) (outcome : AutoRun) (run : RunNumber),
      (Notice.ready cause source generation outcome run).wire =
        wire 0x60 0 ([((match cause with | .power => 0 | .pin => 1 | .restart => 2) : Byte),
            (match source with | .stored => 0 | .defaultsEmpty => 1 | .defaultsInvalid => 2)]
          ++ leBytes 4 generation.toNat
          ++ (match outcome with
            | .off => [0, 0, 0]
            | .started => [1, 0, 0]
            | .refused .saDisabled => [2, 0, 0]
            | .refused (.measure m) => [2, 2, BitVec.ofNat 8 m.val]
            | .refused (.unit k) => [2, 3, BitVec.ofNat 8 k.val])
          ++ leBytes 2 run.toNat))

/-- R184, R185: IDENTIFY and STATUS: their replies, and the counts that the clear flag sets to 0 after the reply is built. R178: a kind that is not a request kind is refused, whatever the payload. That a row carries out the request in front is the model's reading (log 3). -/
def Obligations.IdentifyStatusAndUnknownKind : Prop :=
  (∀ s : State,
      (Serves s 0x01 [] →
        exec .identify s =
          .next (s.answer (okay [0x54, 0x4D, 0x16, 0x04, 1, 16, 16, 32, 48, 4, 4, 0x00, 0x01, 0x00, 0x02, 32])))
      ∧ (∀ clear : Bool, Serves s 0x02 [yesNo clear] →
        exec .status s =
          .next (State.answer
            (okay ([codeOf EngineState.codes s.engine] ++ leBytes 2 s.runNumber.toNat ++ leBytes 5 s.iface.frameNumber.toNat
              ++ [codeOf IfaceState.codes s.iface.state] ++ leBytes 4 (conditionWord s.conditions).toNat
              ++ [codeOf UnitPhase.codes s.units[0].phase, codeOf UnitPhase.codes s.units[1].phase,
                  codeOf UnitPhase.codes s.units[2].phase, codeOf UnitPhase.codes s.units[3].phase]
              ++ [codeOf TimerPhase.codes s.timers[0].phase, codeOf TimerPhase.codes s.timers[1].phase,
                  codeOf TimerPhase.codes s.timers[2].phase, codeOf TimerPhase.codes s.timers[3].phase]
              ++ leBytes 2 s.store.free.length ++ [BitVec.ofNat 8 s.store.index.length]
              ++ leBytes 2 s.link.noticesLost.toNat ++ leBytes 2 s.link.framingErrors.toNat
              ++ leBytes 2 s.link.lengthErrors.toNat ++ leBytes 2 s.link.timeouts.toNat
              ++ leBytes 2 s.link.checkErrors.toNat ++ leBytes 2 s.link.overrunDrops.toNat
              ++ [codeOf ImageState.codes s.image.state] ++ leBytes 4 s.image.generation.toNat))
            (if clear then
              { s with
                link :=
                  { s.link with
                    noticesLost := 0, framingErrors := 0, lengthErrors := 0, timeouts := 0, checkErrors := 0,
                    overrunDrops := 0 } }
            else s))))
  ∧ (∀ (s : State) (q : Request), s.current = some q →
      ¬ (1 ≤ q.kind.toNat ∧ q.kind.toNat ≤ 9) → ¬ (0x10 ≤ q.kind.toNat ∧ q.kind.toNat ≤ 0x2F) →
      exec .unknownKind s = .next (s.answer { status := .unknownKind, data := [] }))

/-! ### Reset, start-up, restart, the stored image -/

/-- R189, R199: a hard reset ends in every state with the engine STOPPED, the run number 0, the image kept, and start-up begun. The values every block then holds are those of R24, R43, R66, R81, R105, R117, R148, R170, R171 and R187, LTX high among them. The lanes, the last taken frame, the working pins, the first FSY, the sync-loss measurement and the message gap are the model's (log 18). The previous sample of FSY and the level held for SCK, both low, are the model's (log 10): R24 has SCK and FSY inputs at high impedance. The model's too are the trigger fields of a cleared unit (log 17) and that the waiting commands stay (log 19). -/
def Obligations.HardResetGivesResetValues : Prop :=
  ∀ (s : State) (cause : ResetCause) (pins : ResetPins), ∃ t : State, exec (.hardReset cause pins) s = .next t
    ∧ t.engine = .stopped ∧ t.runNumber = 0 ∧ t.image = s.image ∧ t.startup = some cause ∧ t.events = []
    ∧ t.setup.portA = ⟨false, 8, .p32, .w24, .msbFirst, true, .rising⟩ ∧ t.setup.portB = t.setup.portA
    ∧ t.setup.interface = ⟨.follower, 8, 256, 10⟩
    ∧ (∀ m : Fin 16, t.setup.measures[m] = ⟨false, .copy, 0, 0, 1⟩
        ∧ t.measures[m].output = 0 ∧ t.measures[m].fresh = false ∧ t.measures[m].position = 0
        ∧ t.measures[m].largest = 0 ∧ t.measures[m].smallest = 0 ∧ t.measures[m].sum = 0)
    ∧ (∀ c : Fin 32, t.setup.conditions[c] = ⟨0, .above, 0, 0, 0, 1, 1, false, false⟩
        ∧ t.conditions[c] = ⟨.disarmed, 0, 0⟩)
    ∧ (∀ k : Fin 4, t.setup.timers[k] = ⟨1000, .oneShot, .down, false⟩ ∧ t.timers[k] = ⟨.idle, 0, 0⟩)
    ∧ (∀ b : Fin 48, t.setup.bindings[b] = ⟨false, 0, .notify, 0, .always, 0⟩)
    ∧ (∀ o : Fin 4, t.setup.outputs[o] = ⟨.actions, 0, .normal⟩ ∧ t.actionLevels[o] = false ∧ t.pin o = false)
    ∧ (∀ i : Fin 2, t.setup.filters[i] = 10 ∧ t.inputs[i].filtered = (if i = 0 then pins.in0 else pins.in1)
        ∧ t.inputs[i].hold = none)
    ∧ (∀ k : Fin 4, t.setup.units[k] = ⟨1, 0, 1024, .ignore, .truncate, false, false⟩ ∧ t.units[k] = clearedUnit)
    ∧ t.setup.store = ⟨16, .keepOld⟩ ∧ t.setup.autoRun = false
    ∧ t.store.free.length = 256 ∧ t.store.low = .normal ∧ t.store.index = [] ∧ t.store.nextId = 1
    ∧ t.iface.state = .off ∧ t.iface.shiftA = [] ∧ t.iface.shiftB = [] ∧ t.iface.holding = none ∧ t.iface.frameNumber = 0
    ∧ t.iface.shortFrames = 0 ∧ t.iface.overruns = 0 ∧ t.iface.syncLosses = 0
    ∧ t.link.rate = (match pins.baud1, pins.baud0 with
        | false, false => .r115200
        | false, true => .r460800
        | true, false => .r921600
        | true, true => .r2000000)
    ∧ t.link.receiver.state = .hunt ∧ t.link.requests = [] ∧ t.link.dispatcher = .idle ∧ t.link.replies = []
    ∧ t.link.notices = [] ∧ t.link.transmitter = .idle
    ∧ t.link.framingErrors = 0 ∧ t.link.lengthErrors = 0 ∧ t.link.timeouts = 0 ∧ t.link.checkErrors = 0
    ∧ t.link.overrunDrops = 0 ∧ t.link.noticesLost = 0 ∧ t.pending = s.pending
    ∧ (∀ bitTimes, t.ltx bitTimes = true)
    ∧ (∀ l : Fin 16, t.lanes[l] = 0) ∧ t.lastTaken = none ∧ (∀ o : Fin 4, t.workPins[o] = false)
    ∧ t.iface.lastFsy = false ∧ t.iface.firstFsyDue = false ∧ t.iface.syncTimer = none ∧ t.iface.sckHigh = false
    ∧ t.link.receiver.gap = 0

/-- R199: the end of the start-up read: the setup is the image's when it is VALID and the defaults otherwise, READY is the first notice, and the run starts exactly when auto-run is on and the checks pass. The stages of the dispatcher that the invariant speaks of are the model's (log 16). -/
def Obligations.StartupReadBringsThePartUp : Prop :=
  ∀ (s : State) (cause : ResetCause) (u : Setup), s.startup = some cause → EngineConsistent s → s.link.notices = [] →
    u = (if s.image.state = .valid then s.image.contents else defaultSetup) →
    ∃ (t : State) (more : List Notice), exec .startupSetupRead s = .next t ∧ t.startup = none ∧ t.setup = u ∧ t.image = s.image
      ∧ t.actionLevels = s.actionLevels ∧ t.store.index = s.store.index ∧ t.link.requests = s.link.requests
      ∧ t.engine = (if u.autoRun = true ∧ runChecks u = none then .running else .stopped)
      ∧ (t.engine = .running → t.runNumber = nextFromOne s.runNumber)
      ∧ (t.engine = .stopped → t.runNumber = s.runNumber ∧ more = [])
      ∧ t.link.notices =
          .ready (match cause with | .power => .power | .pin => .pin)
            (match s.image.state with | .valid => .stored | .neverWritten => .defaultsEmpty | .invalid => .defaultsInvalid)
            s.image.generation
            (if u.autoRun then (match runChecks u with | none => .started | some c => .refused c) else .off)
            t.runNumber :: more

/-- R198, R180: RESTART waits for a place in the reply queue; with one it places its reply OK, stops the engine if it runs, and the request stays in the queue while the image is read. R198 steps 3 to 7: the end of the restart's image read. That it waits for the place before it begins is the model's reading (log 16). -/
def Obligations.RestartStopsThenBringsThePartUp : Prop :=
  (∀ (s : State) (q : Request), s.current = some q → q.kind = 0x05 → q.payload = [] →
      (4 ≤ s.link.replies.length → exec .restart s = .next s)
      ∧ (s.link.replies.length < 4 →
        ∃ t : State, exec .restart s = .next t ∧ t.engine = .stopped ∧ t.setup = s.setup ∧ t.image = s.image
          ∧ t.runNumber = s.runNumber ∧ t.actionLevels = s.actionLevels ∧ t.inputs = s.inputs
          ∧ t.link.replies = s.link.replies ++ [{ kind := 0x85, tag := q.tag, status := .ok, data := [] }]
          ∧ t.link.requests = s.link.requests ∧ t.link.dispatcher = .executing .restarting
          ∧ (s.engine = .stopped → t = { s with link := t.link } ∧ t.link.notices = s.link.notices)
          ∧ (s.engine = .running → t.events = [] ∧ t.iface.state = .off ∧ (∀ k : Fin 4, t.units[k].phase = .idle)
              ∧ ∀ c : Fin 32, t.conditions[c].phase = .disarmed)))
  ∧ (∀ (s : State) (u : Setup) (q : Request) (rest : List Request), s.link.dispatcher = .executing .restarting →
      EngineConsistent s → s.link.requests = q :: rest → s.link.notices.length < 16 →
      u = (if s.image.state = .valid then s.image.contents else defaultSetup) →
      ∃ (t : State) (more : List Notice), exec .restartSetupRead s = .next t ∧ t.setup = u ∧ t.image = s.image
        ∧ t.store.index = s.store.index ∧ t.store.nextId = s.store.nextId ∧ t.store.mem = s.store.mem
        ∧ (∀ o : Fin 4, t.actionLevels[o] = false)
        ∧ (∀ m : Fin 16, t.measures[m] = clearedMeasure)
        ∧ (∀ c : Fin 32, t.conditions[c].assertions = 0) ∧ (∀ k : Fin 4, t.timers[k].expiries = 0)
        ∧ t.iface.frameNumber = 0 ∧ t.iface.shortFrames = 0 ∧ t.iface.overruns = 0 ∧ t.iface.syncLosses = 0
        ∧ t.engine = (if u.autoRun = true ∧ runChecks u = none then .running else .stopped)
        ∧ (t.engine = .running → t.runNumber = nextFromOne s.runNumber)
        ∧ (t.engine = .stopped → t.runNumber = s.runNumber ∧ more = [])
        ∧ t.link.requests = rest ∧ t.link.replies = s.link.replies
        ∧ t.link.dispatcher = (if rest = [] then .idle else .executing .begun)
        ∧ t.link.notices = s.link.notices ++
            .ready .restart
              (match s.image.state with | .valid => .stored | .neverWritten => .defaultsEmpty | .invalid => .defaultsInvalid)
              s.image.generation
              (if u.autoRun then (match runChecks u with | none => .started | some c => .refused c) else .off)
              t.runNumber :: more)

/-- R195: SAVE_SETUP copies the working setup and makes the image INVALID; the end of the write makes it VALID with the copy and the next generation when verified, and answers STORE_FAILED otherwise. R196, R197: LOAD_SETUP waits for the image read, which replaces the working setup when the image is VALID and answers STORE_FAILED otherwise; DEFAULT_SETUP sets the defaults. R197: SET_AUTORUN writes the flag in both engine states. That the INVALID image keeps its contents field, from the start of the save and after a failed one, is the model's choice (log 14): the spec gives the contents of an INVALID image no value and no use. That a whole new setup takes its filter times up at once is the model's reading (log 21). -/
def Obligations.SaveLoadDefaultAndAutorun : Prop :=
  ((∀ s : State, Serves s 0x06 [] →
      exec .saveSetup s =
        .next
          { s with
            image := { s.image with state := .invalid }
            link := { s.link with dispatcher := .waiting (.saving s.setup) } })
    ∧ (∀ (s : State) (copy : Setup), s.link.dispatcher = .waiting (.saving copy) → s.link.requests ≠ [] →
      exec (.saveComplete false) s = .next (s.answer { status := .storeFailed, data := [] })
      ∧ exec (.saveComplete true) s =
          .next (State.answer
            (okay (leBytes 4 (if s.image.generation = 4294967295#32 then 1#32 else s.image.generation + 1#32).toNat))
            { s with
              image :=
                { state := .valid
                  generation := if s.image.generation = 4294967295#32 then 1#32 else s.image.generation + 1#32
                  contents := copy } })))
  ∧ (∀ s : State, s.engine = .stopped →
      (Serves s 0x07 [] → exec .loadSetup s = .next { s with link := { s.link with dispatcher := .waiting .loading } })
      ∧ (s.link.dispatcher = .waiting .loading → s.image.state = .valid →
          ∃ t : State, TakenUp s.image.contents s t
            ∧ exec .loadComplete s = .next (t.answer (okay (leBytes 4 s.image.generation.toNat))))
      ∧ (s.link.dispatcher = .waiting .loading → s.image.state ≠ .valid →
          exec .loadComplete s = .next (s.answer { status := .storeFailed, data := [] }))
      ∧ (Serves s 0x08 [] → ∃ t : State, TakenUp defaultSetup s t ∧ exec .defaultSetup s = .next (t.answer (okay []))))
  ∧ (∀ (s : State) (b : Bool), Serves s 0x09 [yesNo b] →
      exec .setAutorun s = .next (State.answer (okay [yesNo b]) { s with setup := { s.setup with autoRun := b } }))

/-! ### Runs and stops -/

/-- R190, R38, R145: the RUN checks name the first item that fails: SA disabled, then the lowest-numbered enabled measure with an absent lane, then the lowest-numbered unit with an absent lane. -/
def Obligations.RunChecksNameTheFirstFailure : Prop :=
  ∀ (u : Setup) (badMeasure : Fin 16 → Prop) (badUnit : Fin 4 → Prop),
    (∀ m, badMeasure m ↔ u.measures[m].enabled = true ∧
      (u.present u.measures[m].laneA = false
        ∨ (u.measures[m].kind = .diff ∨ u.measures[m].kind = .meanprod) ∧ u.present u.measures[m].laneB = false)) →
    (∀ k, badUnit k ↔ ∃ l : Fin 16, u.units[k].mask.getLsbD l.val = true ∧ u.present l = false) →
    (runChecks u = some .saDisabled ↔ u.portA.enabled = false)
    ∧ (∀ m, runChecks u = some (.measure m) ↔ u.portA.enabled = true ∧ badMeasure m ∧ ∀ j, j < m → ¬ badMeasure j)
    ∧ (∀ k, runChecks u = some (.unit k) ↔
        u.portA.enabled = true ∧ (∀ m, ¬ badMeasure m) ∧ badUnit k ∧ ∀ j, j < k → ¬ badUnit j)
    ∧ (runChecks u = none ↔ u.portA.enabled = true ∧ (∀ m, ¬ badMeasure m) ∧ ∀ k, ¬ badUnit k)

/-- R191: the RUN effects: the run number advances, every block prepares the run, and the interface enters SEEKING or RECEIVING. R146, R123: in unit order, on the states `p 0` to `p 4`, each unit with arm-at-run is armed exactly when its ring's pages are free, and otherwise stays IDLE with an ARM_FAILED notice (which pages: log 12; an armed unit's trigger fields: log 17). R190: a refused RUN changes no block; it answers STATE while RUNNING, and SETUP_CONFLICT with the item kind and index. -/
def Obligations.RunStartsEveryBlockOrChangesNothing : Prop :=
  (∀ s : State, Serves s 0x03 [] → s.engine = .stopped → runChecks s.setup = none →
      ∃ t : State, exec .run s = .next (t.answer (okay (leBytes 2 t.runNumber.toNat)))
        ∧ t.engine = .running ∧ t.runNumber = (if s.runNumber = 65535#16 then 1#16 else s.runNumber + 1#16)
        ∧ t.setup = s.setup ∧ t.image = s.image ∧ t.startup = s.startup ∧ t.actionLevels = s.actionLevels ∧ t.inputs = s.inputs
        ∧ t.store.index = s.store.index ∧ t.store.nextId = s.store.nextId ∧ t.store.mem = s.store.mem
        ∧ t.link.replies = s.link.replies ∧ t.link.requests = s.link.requests
        ∧ t.iface.state = (match s.setup.interface.source with | .follower => .seeking | .provider => .receiving)
        ∧ t.iface.frameNumber = 0 ∧ t.iface.shiftA = [] ∧ t.iface.shiftB = [] ∧ t.iface.holding = none
        ∧ t.iface.shortFrames = 0 ∧ t.iface.overruns = 0 ∧ t.iface.syncLosses = 0
        ∧ (∀ m : Fin 16, t.measures[m].output = 0 ∧ t.measures[m].fresh = false ∧ t.measures[m].position = 0
            ∧ t.measures[m].largest = 0 ∧ t.measures[m].smallest = 0 ∧ t.measures[m].sum = 0)
        ∧ (∀ c : Fin 32, t.conditions[c] =
            { phase := if s.setup.conditions[c].armAtRun then .watching else .disarmed, runCount := 0, assertions := 0 })
        ∧ (∀ k : Fin 4, t.timers[k] =
            (if s.setup.timers[k].startAtRun then
              { phase := .running
                count := match s.setup.timers[k].direction with | .down => s.setup.timers[k].period | .up => 0
                expiries := 0 }
            else { phase := .idle, count := 0, expiries := 0 }))
        ∧ (∀ e, e ∈ t.events → e.val = 83)
        ∧ ∃ p : Nat → State,
            p 0 =
              { s with
                engine := t.engine, runNumber := t.runNumber, iface := (p 0).iface, lastTaken := none
                measures := t.measures, conditions := t.conditions, timers := t.timers, events := [] }
            ∧ (∀ k : Fin 4, s.setup.units[k].armAtRun = false → p (k.val + 1) = p k.val)
            ∧ (∀ k : Fin 4, s.setup.units[k].armAtRun = true → ArmedOrReported k .armAtRun 0 (p k.val) (p (k.val + 1)))
            ∧ t = { p 4 with iface := t.iface })
  ∧ (∀ s : State, Serves s 0x03 [] →
      (s.engine = .running → exec .run s = .next (s.answer { status := .state, data := [] }))
      ∧ (∀ c, s.engine = .stopped → runChecks s.setup = some c →
          exec .run s = .next (s.answer
            { status := .setupConflict
              data := match c with
                | .saDisabled => [0, 0]
                | .measure m => [2, BitVec.ofNat 8 m.val]
                | .unit k => [3, BitVec.ofNat 8 k.val] })))

/-- R192: STOP ends the run: the blocks apply their stop effects and the reply carries the frame number; in STOPPED it changes nothing. R147, R169: in unit order, on the states `p 0` to `p 4`, a unit in FILLING or ARMED returns its pages and a unit in POST closes with STOPPED, its record handed to the index (CloseHandsTheCaptureOver says what a close does). The order of the free list is the model's (log 12), as are the trigger fields of a cleared record (log 17) and, in FOLLOWER clocking, the low level held for SCK (log 10). -/
def Obligations.StopEndsTheRun : Prop :=
  ∀ s : State, Serves s 0x04 [] →
    (s.engine = .stopped → exec .stop s = .next (s.answer (okay (leBytes 5 s.iface.frameNumber.toNat))))
    ∧ (s.engine = .running →
      ∃ t : State, exec .stop s = .next (t.answer (okay (leBytes 5 s.iface.frameNumber.toNat)))
        ∧ t.engine = .stopped ∧ t.runNumber = s.runNumber ∧ t.setup = s.setup ∧ t.image = s.image ∧ t.events = []
        ∧ t.actionLevels = s.actionLevels ∧ t.inputs = s.inputs ∧ t.store.mem = s.store.mem
        ∧ t.iface =
            { s.iface with
              state := .off, shiftA := [], shiftB := [], holding := none, firstFsyDue := false, syncTimer := none
              sckHigh := false }
        ∧ (∀ m : Fin 16, t.measures[m] = { s.measures[m] with fresh := false })
        ∧ (∀ c : Fin 32, t.conditions[c] = { phase := .disarmed, runCount := 0, assertions := s.conditions[c].assertions })
        ∧ (∀ k : Fin 4, t.timers[k] = { s.timers[k] with phase := .idle })
        ∧ (∀ k : Fin 4, t.units[k] = if s.units[k].phase = .idle then s.units[k] else clearedUnit)
        ∧ t.link.requests = s.link.requests ∧ t.link.replies = s.link.replies
        ∧ ∃ p : Nat → State,
            p 0 =
              { s with
                engine := .stopped, iface := t.iface, measures := t.measures, conditions := t.conditions
                timers := t.timers, events := [] }
            ∧ (∀ k : Fin 4, (p k.val).units[k] = s.units[k])
            ∧ (∀ k : Fin 4, s.units[k].phase = .idle → p (k.val + 1) = p k.val)
            ∧ (∀ k : Fin 4, s.units[k].phase = .filling ∨ s.units[k].phase = .armed → ∀ free : List Page,
                free = (p k.val).store.free ++ s.units[k].prePages →
                p (k.val + 1) =
                  { p k.val with
                    units := put (p k.val).units k clearedUnit
                    store := { (p k.val).store with
                      free := free, low := if free.length < s.setup.store.lowWater then .low else .normal } })
            ∧ (∀ k : Fin 4, s.units[k].phase = .post →
                p (k.val + 1) = State.closeCapture k
                  { p k.val with
                    units := put (p k.val).units k { s.units[k] with flags := { s.units[k].flags with stopped := true } } })
            ∧ t = p 4)

/-! ### The frame interface -/

/-- R6: the sample of a slot is formed from the first sample-width bits of the slot (R5 places them): a two's complement number, the sign bit first or last received, a 16-bit one multiplied by 256. No other bit of the frame enters the value. -/
def Obligations.SampleIsTwosComplement : Prop :=
  ∀ (p : PortSetup) (frame bits : List Bool) (slot : Nat), p.enabled = true → slot < p.slots →
    bits = (frame.drop ((if p.delay then 1 else 0) + slot * p.pitch.bits)).take p.width.bits →
    bits.length = p.width.bits →
    ∃ v : Lane, (slotSamples p frame)[slot]? = some v
      ∧ v.toInt =
          (match p.order with
            | .msbFirst => (BitVec.ofBoolListBE bits).toInt
            | .lsbFirst => (BitVec.ofBoolListLE bits).toInt)
          * (match p.width with | .w16 => 256 | .w24 => 1)

/-- R5: between sync edges each enabled port takes in its data bit at each of its sampling edges, and nothing else changes but the level of SCK and the memory of FSY. R3: in PROVIDER clocking an edge gives SCK its level; FSY takes on the SCK edge opposite to SA's the level that SA samples next, and keeps it over SA's own edge, high at one SA edge in every frame length of them; both are low in OFF. The edges stand in the command (log 8). -/
def Obligations.ShiftStagesGatherBits : Prop :=
  (∀ (s : State) (edges : List SckEdge), s.iface.state = .receiving → s.iface.firstFsyDue = false →
    s.setup.interface.source = .follower → (∀ e ∈ edges, e.fsy = false) →
    ∃ t : State, exec (.frameBoundary edges) s = .next t ∧ t = { s with iface := t.iface }
      ∧ t.iface =
          { s.iface with
            shiftA := s.iface.shiftA ++ (if s.setup.portA.enabled then
              (edges.filter fun e => e.edge = s.setup.portA.edge).map SckEdge.sda else [])
            shiftB := s.iface.shiftB ++ (if s.setup.portB.enabled then
              (edges.filter fun e => e.edge = s.setup.portB.edge).map SckEdge.sdb else [])
            lastFsy := t.iface.lastFsy, fsyLow := t.iface.fsyLow, fsyPhase := t.iface.fsyPhase
            sckHigh := match edges.getLast? with
              | some e => decide (e.edge = .rising)
              | none => s.iface.sckHigh })
  ∧ (∀ (s : State) (e : SckEdge), s.setup.interface.source = .provider → s.iface.state = .receiving →
      ∃ t : State, exec (.frameBoundary [e]) s = .next t ∧ t.sckPin = decide (e.edge = .rising)
        ∧ (e.edge ≠ s.setup.portA.edge → t.fsyPin = decide (s.iface.fsyPhase = 0) ∧ t.iface.fsyPhase = s.iface.fsyPhase)
        ∧ (e.edge = s.setup.portA.edge →
            t.fsyPin = decide (s.iface.fsyPhase = 0)
            ∧ t.iface.fsyPhase = (s.iface.fsyPhase + 1) % s.setup.interface.frameLength))
  ∧ (∀ s : State, s.setup.interface.source = .provider → s.iface.state = .off → s.sckPin = false ∧ s.fsyPin = false)

/-- R10, R9: the first sync edge of a run starts a frame and ends none: no timer advances, no event is raised, the frame number stays. The memory of FSY and the phase of the part's own FSY are the model's (log 9, log 10). -/
def Obligations.FirstSyncEdgeStartsAFrame : Prop :=
  ∀ (s : State) (e : SckEdge), e.edge = s.setup.portA.edge → s.iface.lastFsy = false →
    (s.iface.state = .seeking ∧ s.setup.interface.source = .follower ∧ e.fsy = true ∧ s.iface.fsyLow = true
      ∨ s.iface.state = .receiving ∧ s.iface.firstFsyDue = true ∧ s.setup.interface.source = .provider
        ∧ s.iface.fsyPhase = 0) →
    ∃ t : State, exec (.firstSyncEdge [e]) s = .next t ∧ t = { s with iface := t.iface }
      ∧ t.iface.state = .receiving ∧ t.iface.frameNumber = s.iface.frameNumber ∧ t.iface.holding = s.iface.holding
      ∧ t.iface.firstFsyDue = false
      ∧ t.iface.shiftA = (if s.setup.portA.enabled then [e.sda] else [])
      ∧ t.iface.shiftB = (if s.setup.portB.enabled = true ∧ s.setup.portB.edge = s.setup.portA.edge then [e.sdb] else [])
      ∧ t.iface.syncTimer = (match s.setup.interface.source with | .follower => some 0 | .provider => none)

/-- R13 step 5: a complete frame that finds the holding stage EMPTY moves into it with its number and both ports' samples. R13 step 3: a short frame is discarded as a whole, even with the stage FULL: counted, FRAME_LOST raised, a STREAM_FAULT notice naming the short ports and the frame. R15: a complete frame that finds the stage FULL is an overrun: the arriving frame is discarded, counted and reported; the held frame stays. The phase of the part's own FSY is the model's (log 9). -/
def Obligations.BoundaryHoldsOrDiscardsTheFrame : Prop :=
  (∀ (s : State) (e : SckEdge), SyncEdgeInFrame s e → ¬ ShortPort s.setup.portA s.iface.shiftA →
      ¬ ShortPort s.setup.portB s.iface.shiftB → s.iface.holding = none →
      ∃ t : State, exec (.frameBoundary [e]) s = .next t ∧ BoundaryPassed s e t ∧ t.link = s.link
        ∧ t.iface.holding = some
            { number := s.iface.frameNumber + 1
              slotsA := slotSamples s.setup.portA s.iface.shiftA
              slotsB := slotSamples s.setup.portB s.iface.shiftB }
        ∧ t.iface.shortFrames = s.iface.shortFrames ∧ t.iface.overruns = s.iface.overruns
        ∧ t.iface.syncLosses = s.iface.syncLosses)
  ∧ (∀ (s : State) (e : SckEdge) (shortA shortB : Bool), SyncEdgeInFrame s e →
      (shortA = true ↔ ShortPort s.setup.portA s.iface.shiftA) → (shortB = true ↔ ShortPort s.setup.portB s.iface.shiftB) →
      (shortA || shortB) = true →
      ∃ t : State, exec (.frameBoundary [e]) s = .next t ∧ BoundaryPassed s e t
        ∧ t.iface.holding = s.iface.holding ∧ t.iface.shortFrames = satInc s.iface.shortFrames
        ∧ t.iface.overruns = s.iface.overruns ∧ (s.engine = .running → evFrameLost ∈ t.events)
        ∧ t.link = s.link.offerNotice (.streamFault .short shortA shortB s.runNumber (s.iface.frameNumber + 1)))
  ∧ (∀ (s : State) (e : SckEdge) (f : HeldFrame), SyncEdgeInFrame s e → ¬ ShortPort s.setup.portA s.iface.shiftA →
      ¬ ShortPort s.setup.portB s.iface.shiftB → s.iface.holding = some f →
      ∃ t : State, exec (.frameBoundary [e]) s = .next t ∧ BoundaryPassed s e t
        ∧ t.iface.holding = some f ∧ t.iface.overruns = satInc s.iface.overruns
        ∧ t.iface.shortFrames = s.iface.shortFrames ∧ (s.engine = .running → evFrameLost ∈ t.events)
        ∧ t.link = s.link.offerNotice (.streamFault .overrun false false s.runNumber (s.iface.frameNumber + 1)))

/-- R70, R71: the boundary at which a timer's count reaches its end: the expiry is counted, EXPIRE is pending, a REPEAT timer begins its next period and a ONE_SHOT timer goes to IDLE at its end. R67, R70: a timer started with period P expires at the P-th boundary after the start and at none before it. That TIMER_EXPIRE is the boundary itself is the model's reading (log 6). -/
def Obligations.TimersExpireAfterTheirPeriod : Prop :=
  (∀ (s : State) (e : SckEdge) (k : Fin 4), SyncEdgeInFrame s e → s.engine = .running → s.timers[k].phase = .running →
      (match s.setup.timers[k].direction with
        | .down => s.timers[k].count = 1
        | .up => s.timers[k].count + 1 = s.setup.timers[k].period) →
      ∃ t : State, exec (.timerExpire k [e]) s = .next t ∧ BoundaryPassed s e t ∧ evExpire k ∈ t.events
        ∧ t.timers[k].expiries = satInc s.timers[k].expiries
        ∧ (match s.setup.timers[k].mode, s.setup.timers[k].direction with
          | .repeating, .down => t.timers[k].phase = .running ∧ t.timers[k].count = s.setup.timers[k].period
          | .repeating, .up => t.timers[k].phase = .running ∧ t.timers[k].count = 0
          | .oneShot, .down => t.timers[k].phase = .idle ∧ t.timers[k].count = 0
          | .oneShot, .up => t.timers[k].phase = .idle ∧ t.timers[k].count = s.setup.timers[k].period))
  ∧ (∀ (u : TimerSetup) (t : TimerState) (n : Nat), n < u.period →
      (timerDue u ((timerAdvance u)^[n] (timerStart u t)) = true ↔ n + 1 = u.period))

/-- R11, R126: the sync-loss time passing without a sync edge: the interface enters LOST, the frame in progress is abandoned, the loss is counted, SYNC_LOST is pending, a notice is queued, and the units that are not IDLE note the interruption; the holding stage, the frame number and the timers stand. R12: the sync edge that returns a LOST interface to RECEIVING ends no frame: the frame number and the timers stand, SYNC_REGAINED is pending and a notice is queued. Time is counted in periods of the time base (log 11); the memory of FSY is the model's (log 10). -/
def Obligations.SyncIsLostAndRegained : Prop :=
  (∀ (s : State) (time periods : Nat), s.engine = .running → s.iface.syncTimer = some time →
      s.setup.interface.syncLossMs * 24576 ≤ time + periods →
      exec (.syncLost periods) s =
        .next
          { s with
            iface :=
              { s.iface with
                state := .lost, shiftA := [], shiftB := [], fsyLow := false, syncTimer := none
                syncLosses := satInc s.iface.syncLosses }
            units := tab fun k =>
              if s.units[k].phase = .idle then s.units[k]
              else { s.units[k] with flags := { s.units[k].flags with interrupted := true } }
            events := insertId evSyncLost s.events
            link := s.link.offerNotice (.streamFault .lost false false s.runNumber s.iface.frameNumber) })
  ∧ (∀ (s : State) (e : SckEdge), s.engine = .running → s.iface.state = .lost → s.setup.interface.source = .follower →
      e.edge = s.setup.portA.edge → e.fsy = true → s.iface.lastFsy = false → s.iface.fsyLow = true →
      ∃ t : State, exec (.syncRegained [e]) s = .next t
        ∧ { t with iface := s.iface, events := s.events, link := s.link } = s
        ∧ t.iface.state = .receiving ∧ t.iface.frameNumber = s.iface.frameNumber ∧ t.iface.holding = s.iface.holding
        ∧ t.iface.shiftA = (if s.setup.portA.enabled then [e.sda] else []) ∧ t.iface.syncTimer = some 0
        ∧ t.events = insertId evSyncRegained s.events
        ∧ t.link = s.link.offerNotice (.streamFault .regained false false s.runNumber s.iface.frameNumber))

/-- R21, R8: SET_PORT writes the named port or the interface while STOPPED; with PROVIDER every enabled port must fit the frame length, or the answer is SETUP_CONFLICT and nothing is written. -/
def Obligations.SetPortWritesWhileStopped : Prop :=
  ∀ (s : State) (u : Setup) (payload : List Byte), Serves s 0x10 payload →
    (∃ p : PortSetup, p.InRange ∧ payload = 0 :: p.bytes ∧ u = { s.setup with portA := p })
      ∨ (∃ p : PortSetup, p.InRange ∧ payload = 1 :: p.bytes ∧ u = { s.setup with portB := p })
      ∨ (∃ i : InterfaceSetup, i.InRange ∧ payload = 2 :: i.bytes ∧ u = { s.setup with interface := i }) →
    (s.engine = .running → exec .setPort s = .next (s.answer { status := .state, data := [] }))
    ∧ (s.engine = .stopped →
        exec .setPort s = .next
          (if u.interface.source = .provider
              ∧ (u.portA.enabled = true ∧ u.interface.frameLength < u.portA.slots * u.portA.pitch.bits + bit u.portA.delay
                ∨ u.portB.enabled = true ∧ u.interface.frameLength < u.portB.slots * u.portB.pitch.bits + bit u.portB.delay)
            then s.answer { status := .setupConflict, data := [] }
            else State.answer (okay []) { s with setup := u }))

/-! ### Measures -/

/-- R28: the per-frame kinds. -/
def Obligations.PerFrameMeasures : Prop :=
  ∀ (u : MeasureSetup) (lanes : Vector Lane 16) (m : MeasureState), u.enabled = true →
    (u.kind = .copy → updateMeasure u lanes m = { m with output := lanes[u.laneA], fresh := true })
    ∧ (u.kind = .diff → ∃ v : Lane, updateMeasure u lanes m = { m with output := v, fresh := true }
        ∧ v.toInt = max (-8388608) (min 8388607 (lanes[u.laneA].toInt - lanes[u.laneB].toInt)))
    ∧ (u.kind = .mag → ∃ v : Lane, updateMeasure u lanes m = { m with output := v, fresh := true }
        ∧ v.toInt = min 8388607 |lanes[u.laneA].toInt|)

/-- R29, R27: a window measure takes a frame into its window; the W-th frame closes it with an output. A disabled measure keeps all but its fresh mark. R29 to R34: the terms and the outputs of the window kinds: SPAN clamped, MEAN and MEANPROD truncated toward zero, the product shifted toward minus infinity. -/
def Obligations.WindowMeasures : Prop :=
  (∀ (u : MeasureSetup) (lanes : Vector Lane 16) (m t : MeasureState),
      (u.enabled = false → updateMeasure u lanes m = { m with fresh := false })
      ∧ (u.enabled = true → u.kind.perFrame = false →
          t.position = m.position + 1 →
          t.largest.toInt = (if m.position = 0 then lanes[u.laneA].toInt else max m.largest.toInt lanes[u.laneA].toInt) →
          t.smallest.toInt = (if m.position = 0 then lanes[u.laneA].toInt else min m.smallest.toInt lanes[u.laneA].toInt) →
          t.sum = (if m.position = 0 then 0 else m.sum) + windowTerm u.kind lanes[u.laneA] lanes[u.laneB] →
          updateMeasure u lanes m =
            if m.position + 1 = u.window then
              { output := windowOutput u.kind t.largest t.smallest t.sum u.window, fresh := true, position := 0
                largest := 0, smallest := 0, sum := 0 }
            else { t with output := m.output, fresh := false }))
  ∧ (∀ (a b largest smallest : Lane) (sum : Int) (w : Nat),
      windowTerm .mean a b = a.toInt
      ∧ (windowTerm .meanprod a b * 8388608 ≤ a.toInt * b.toInt
          ∧ a.toInt * b.toInt < (windowTerm .meanprod a b + 1) * 8388608)
      ∧ windowTerm .peak a b = 0 ∧ windowTerm .trough a b = 0 ∧ windowTerm .span a b = 0
      ∧ windowOutput .peak largest smallest sum w = largest
      ∧ windowOutput .trough largest smallest sum w = smallest
      ∧ (windowOutput .span largest smallest sum w).toInt =
          max (-8388608) (min 8388607 (largest.toInt - smallest.toInt))
      ∧ (-8388608 ≤ sum.tdiv w → sum.tdiv w ≤ 8388607 → (windowOutput .mean largest smallest sum w).toInt = sum.tdiv w)
      ∧ (windowOutput .meanprod largest smallest sum w).toInt = max (-8388608) (min 8388607 (sum.tdiv w)))

/-- R41, R40: SET_MEASURE writes a measure while STOPPED and clears its runtime state. R62: SET_CONDITION writes a DISARMED condition in every engine state, keeping its assertion count; otherwise it answers IN_USE. R77: SET_TIMER writes an IDLE timer in every engine state and sets its count to 0; otherwise it answers IN_USE. R142: SET_UNIT writes an IDLE unit; otherwise it answers IN_USE, and while RUNNING SETUP_CONFLICT when the mask names an absent lane. The trigger fields and the first frame of a cleared record are the model's (log 17). -/
def Obligations.SetRequestsWriteIdleEntries : Prop :=
  (∀ (s : State) (m : Fin 16) (u : MeasureSetup), u.InRange → Serves s 0x12 (BitVec.ofNat 8 m.val :: u.bytes) →
      (s.engine = .running → exec .setMeasure s = .next (s.answer { status := .state, data := [] }))
      ∧ (s.engine = .stopped →
          exec .setMeasure s = .next (State.answer (okay [])
            { s with
              setup := { s.setup with measures := put s.setup.measures m u }
              measures := put s.measures m
                { output := 0, fresh := false, position := 0, largest := 0, smallest := 0, sum := 0 } })))
  ∧ (∀ (s : State) (c : Fin 32) (u : ConditionSetup), u.InRange → Serves s 0x14 (BitVec.ofNat 8 c.val :: u.bytes) →
      (s.conditions[c].phase ≠ .disarmed → exec .setCondition s = .next (s.answer { status := .inUse, data := [] }))
      ∧ (s.conditions[c].phase = .disarmed →
          exec .setCondition s = .next (State.answer (okay [])
            { s with
              setup := { s.setup with conditions := put s.setup.conditions c u }
              conditions := put s.conditions c { phase := .disarmed, runCount := 0, assertions := s.conditions[c].assertions } })))
  ∧ (∀ (s : State) (k : Fin 4) (u : TimerSetup), u.InRange → Serves s 0x19 (BitVec.ofNat 8 k.val :: u.bytes) →
      (s.timers[k].phase ≠ .idle → exec .setTimer s = .next (s.answer { status := .inUse, data := [] }))
      ∧ (s.timers[k].phase = .idle →
          exec .setTimer s = .next (State.answer (okay [])
            { s with
              setup := { s.setup with timers := put s.setup.timers k u }
              timers := put s.timers k { s.timers[k] with count := 0 } })))
  ∧ (∀ (s : State) (k : Fin 4) (u : UnitSetup), u.InRange → Serves s 0x24 (BitVec.ofNat 8 k.val :: u.bytes) →
      (s.units[k].phase ≠ .idle → exec .setUnit s = .next (s.answer { status := .inUse, data := [] }))
      ∧ (s.units[k].phase = .idle →
          exec .setUnit s = .next
            (if s.engine = .running ∧ ∃ l : Fin 16, u.mask.getLsbD l.val = true ∧ s.setup.present l = false then
              s.answer { status := .setupConflict, data := [] }
            else State.answer (okay [])
              { s with
                setup := { s.setup with units := put s.setup.units k u }
                units := put s.units k clearedUnit })))

/-! ### Conditions -/

/-- R47: the assert and release tests, formed exactly. -/
def Obligations.ConditionTests : Prop :=
  ∀ (u : ConditionSetup) (v : Lane),
    (u.test = .above → (assertTest u v = true ↔ v.toInt > u.upper.toInt)
      ∧ (releaseTest u v = true ↔ v.toInt ≤ u.upper.toInt - u.hysteresis))
    ∧ (u.test = .below → (assertTest u v = true ↔ v.toInt < u.lower.toInt)
      ∧ (releaseTest u v = true ↔ v.toInt ≥ u.lower.toInt + u.hysteresis))
    ∧ (u.test = .outside → (assertTest u v = true ↔ v.toInt > u.upper.toInt ∨ v.toInt < u.lower.toInt)
      ∧ (releaseTest u v = true ↔ u.lower.toInt + u.hysteresis ≤ v.toInt ∧ v.toInt ≤ u.upper.toInt - u.hysteresis))
    ∧ (u.test = .inside → (assertTest u v = true ↔ u.lower.toInt ≤ v.toInt ∧ v.toInt ≤ u.upper.toInt)
      ∧ (releaseTest u v = true ↔ v.toInt > u.upper.toInt + u.hysteresis ∨ v.toInt < u.lower.toInt - u.hysteresis))

/-- R49 to R52: one evaluation of a condition. -/
def Obligations.ConditionEvaluation : Prop :=
  ∀ (u : ConditionSetup) (m : MeasureState) (c : ConditionState),
    (m.fresh = false ∨ c.phase = .disarmed ∨ (c.phase = .asserted ∧ u.latched = true) → evalCondition u m c = c)
    ∧ (m.fresh = true → c.phase = .watching → assertTest u m.output = true → c.runCount + 1 = u.qualify →
        evalCondition u m c =
          { phase := .asserted, runCount := 0
            assertions := if c.assertions = 65535#16 then 65535#16 else c.assertions + 1#16 })
    ∧ (m.fresh = true → c.phase = .watching → assertTest u m.output = true → c.runCount + 1 ≠ u.qualify →
        evalCondition u m c = { c with runCount := c.runCount + 1 })
    ∧ (m.fresh = true → c.phase = .asserted → u.latched = false → releaseTest u m.output = true →
        c.runCount + 1 = u.release → evalCondition u m c = { c with phase := .watching, runCount := 0 })
    ∧ (m.fresh = true → c.phase = .asserted → u.latched = false → releaseTest u m.output = true →
        c.runCount + 1 ≠ u.release → evalCondition u m c = { c with runCount := c.runCount + 1 })
    ∧ (m.fresh = true → c.phase = .watching → assertTest u m.output = false →
        evalCondition u m c = { c with runCount := 0 })
    ∧ (m.fresh = true → c.phase = .asserted → u.latched = false → releaseTest u m.output = false →
        evalCondition u m c = { c with runCount := 0 })

/-- R60, R56 to R59: ARM_CONDITION, DISARM_CONDITION and UNLATCH_CONDITION while RUNNING: the condition's new state, the RELEASE that leaving ASSERTED raises, and the reply with the state. -/
def Obligations.ConditionRequestsAct : Prop :=
  ∀ (s : State) (c : Fin 32), s.engine = .running →
    (Serves s 0x16 [BitVec.ofNat 8 c.val] →
      exec .armCondition s =
        .next (if s.conditions[c].phase = .disarmed then
            State.answer (okay [1]) { s with conditions := put s.conditions c { s.conditions[c] with phase := .watching, runCount := 0 } }
          else s.answer (okay [if s.conditions[c].phase = .watching then 1 else 2])))
    ∧ (Serves s 0x17 [BitVec.ofNat 8 c.val] →
      exec .disarmCondition s =
        .next (if s.conditions[c].phase = .disarmed then s.answer (okay [0])
          else State.answer (okay [0])
            { s with
              conditions := put s.conditions c { s.conditions[c] with phase := .disarmed, runCount := 0 }
              events := if s.conditions[c].phase = .asserted then insertId (evRelease c) s.events else s.events }))
    ∧ (Serves s 0x18 [BitVec.ofNat 8 c.val] →
      exec .unlatchCondition s =
        .next (if s.conditions[c].phase = .asserted ∧ s.setup.conditions[c].latched = true then
            State.answer (okay [1])
              { s with
                conditions := put s.conditions c { s.conditions[c] with phase := .watching, runCount := 0 }
                events := insertId (evRelease c) s.events }
          else s.answer (okay [match s.conditions[c].phase with | .disarmed => 0 | .watching => 1 | .asserted => 2])))

/-! ### Timers -/

/-- R72, R75: START_TIMER, STOP_TIMER and RESUME_TIMER while RUNNING, with the reply's state and count. -/
def Obligations.TimerRequestsAct : Prop :=
  ∀ (s : State) (k : Fin 4), s.engine = .running →
    (Serves s 0x1B [BitVec.ofNat 8 k.val] → ∀ full : Nat,
      full = (match s.setup.timers[k].direction with | .down => s.setup.timers[k].period | .up => 0) →
      exec .startTimer s = .next (State.answer (okay (1 :: leBytes 3 full))
        { s with timers := put s.timers k { s.timers[k] with phase := .running, count := full } }))
    ∧ (Serves s 0x1C [BitVec.ofNat 8 k.val] →
      exec .stopTimer s =
        .next (if s.timers[k].phase = .running then
            State.answer (okay (2 :: leBytes 3 s.timers[k].count))
              { s with timers := put s.timers k { s.timers[k] with phase := .held } }
          else s.answer (okay ((if s.timers[k].phase = .idle then 0 else 2) :: leBytes 3 s.timers[k].count))))
    ∧ (Serves s 0x1D [BitVec.ofNat 8 k.val] →
      exec .resumeTimer s =
        .next (if s.timers[k].phase = .held then
            State.answer (okay (1 :: leBytes 3 s.timers[k].count))
              { s with timers := put s.timers k { s.timers[k] with phase := .running } }
          else s.answer (okay ((if s.timers[k].phase = .idle then 0 else 1) :: leBytes 3 s.timers[k].count))))

/-! ### The event matrix and the work of a taken frame -/

/-- R93, R94: a binding fires exactly when it is enabled, its source is delivered and its guard holds on the condition states the evaluation left. R53, R87: the delivered set of a frame is the pending ids and the ids of the conditions its evaluation asserted or released. -/
def Obligations.DeliveryFiresExactlyTheseBindings : Prop :=
  (∀ (bs : Vector Binding 48) (delivered : List EventId) (cs : Vector ConditionState 32) (b : Fin 48),
      b ∈ firedBindings bs delivered cs ↔
        bs[b].enabled = true ∧ bs[b].source ∈ delivered
          ∧ (bs[b].guardKind = .whenAsserted → cs[bs[b].guardCond].phase = .asserted)
          ∧ (bs[b].guardKind = .whenNotAsserted →
              cs[bs[b].guardCond].phase = .disarmed ∨ cs[bs[b].guardCond].phase = .watching))
  ∧ (∀ (s : State) (f : HeldFrame) (id : EventId),
      id ∈ s.deliveredAt f ↔
        id ∈ s.events
          ∨ (∃ c : Fin 32, id.val = c.val ∧ s.conditions[c].phase = .watching ∧ (s.conditionsAt f)[c].phase = .asserted)
          ∨ (∃ c : Fin 32, id.val = 32 + c.val ∧ s.conditions[c].phase = .asserted
              ∧ (s.conditionsAt f)[c].phase = .watching))

/-- R16, R27, R49: a take empties the stage, forms the lane vector, updates the measures and evaluates the conditions. What falls on the stream pins during the work (`during`) touches none of these (log 7). The level of a pin as the evaluation leaves it is kept by the model (log 24). -/
def Obligations.TakeWorksTheFrame : Prop :=
  ∀ (s : State) (f : HeldFrame) (during : List StreamEvent), s.engine = .running → s.iface.holding = some f →
    ∃ t : State, exec (.take during) s = .next t
      ∧ (∀ l : Fin 16, t.lanes[l] =
          if s.setup.present l then
            (if l.val < 8 then f.slotsA.getD l.val 0 else f.slotsB.getD (l.val - 8) 0)
          else 0)
      ∧ t.measures = s.measuresAt f ∧ t.lastTaken = some f.number
      ∧ (∀ o : Fin 4, t.workPins[o] = pinLevel s.setup.outputs[o] s.actionLevels[o] (s.conditionsAt f))
      ∧ t.engine = s.engine ∧ t.runNumber = s.runNumber ∧ t.setup = s.setup ∧ t.image = s.image ∧ t.startup = s.startup
      ∧ t.inputs = s.inputs ∧ t.pending = s.pending ∧ t.link.requests = s.link.requests ∧ t.link.replies = s.link.replies
      ∧ (during = [] → t.iface = { s.iface with holding := none })
      ∧ (during = [] → s.firedAt f = [] → (∀ k : Fin 4, s.units[k].phase = .idle) →
          t = { s with
                iface := { s.iface with holding := none }, lanes := t.lanes, lastTaken := t.lastTaken
                measures := t.measures, conditions := s.conditionsAt f, workPins := t.workPins, events := [] })

/-- R55: each condition applies the action of highest precedence that reached it, DISARM over ARM over UNLATCH, to the state the evaluation left. R59: a RELEASE of it is pending after the frame's work exactly when that action made it leave ASSERTED. R109, R108: each output applies the action of highest precedence that reached it, SET over CLEAR over TOGGLE, to its action level. R73, R72: each timer applies the action of highest precedence that reached it, STOP over START over RESUME, when no boundary falls during the work. -/
def Obligations.TakeAppliesTheWinningActions : Prop :=
  (∀ (s : State) (f : HeldFrame) (during : List StreamEvent), s.engine = .running → s.iface.holding = some f →
      ∃ t : State, exec (.take during) s = .next t ∧ ∀ (c : Fin 32) (v : ConditionState), v = (s.conditionsAt f)[c] →
        (Reaches s (s.firedAt f) .condDisarm c.val →
          t.conditions[c] = if v.phase = .disarmed then v else { v with phase := .disarmed, runCount := 0 })
        ∧ (¬ Reaches s (s.firedAt f) .condDisarm c.val → Reaches s (s.firedAt f) .condArm c.val →
          t.conditions[c] = if v.phase = .disarmed then { v with phase := .watching, runCount := 0 } else v)
        ∧ (¬ Reaches s (s.firedAt f) .condDisarm c.val → ¬ Reaches s (s.firedAt f) .condArm c.val →
            Reaches s (s.firedAt f) .condUnlatch c.val →
          t.conditions[c] =
            if v.phase = .asserted ∧ s.setup.conditions[c].latched = true then { v with phase := .watching, runCount := 0 }
            else v)
        ∧ (¬ Reaches s (s.firedAt f) .condDisarm c.val → ¬ Reaches s (s.firedAt f) .condArm c.val →
            ¬ Reaches s (s.firedAt f) .condUnlatch c.val → t.conditions[c] = v)
        ∧ (evRelease c ∈ t.events ↔ v.phase = .asserted
            ∧ (Reaches s (s.firedAt f) .condDisarm c.val
              ∨ ¬ Reaches s (s.firedAt f) .condArm c.val ∧ Reaches s (s.firedAt f) .condUnlatch c.val
                ∧ s.setup.conditions[c].latched = true)))
  ∧ (∀ (s : State) (f : HeldFrame) (during : List StreamEvent), s.engine = .running → s.iface.holding = some f →
      ∃ t : State, exec (.take during) s = .next t ∧ ∀ o : Fin 4,
        (Reaches s (s.firedAt f) .lineSet o.val → t.actionLevels[o] = true)
        ∧ (¬ Reaches s (s.firedAt f) .lineSet o.val → Reaches s (s.firedAt f) .lineClear o.val → t.actionLevels[o] = false)
        ∧ (¬ Reaches s (s.firedAt f) .lineSet o.val → ¬ Reaches s (s.firedAt f) .lineClear o.val →
            Reaches s (s.firedAt f) .lineToggle o.val → t.actionLevels[o] = !s.actionLevels[o])
        ∧ (¬ Reaches s (s.firedAt f) .lineSet o.val → ¬ Reaches s (s.firedAt f) .lineClear o.val →
            ¬ Reaches s (s.firedAt f) .lineToggle o.val → t.actionLevels[o] = s.actionLevels[o]))
  ∧ (∀ (s : State) (f : HeldFrame), s.engine = .running → s.iface.holding = some f →
      ∃ t : State, exec (.take []) s = .next t ∧ ∀ k : Fin 4,
        (Reaches s (s.firedAt f) .timerStop k.val →
          t.timers[k] = if s.timers[k].phase = .running then { s.timers[k] with phase := .held } else s.timers[k])
        ∧ (¬ Reaches s (s.firedAt f) .timerStop k.val → Reaches s (s.firedAt f) .timerStart k.val →
          t.timers[k] =
            { s.timers[k] with
              phase := .running
              count := match s.setup.timers[k].direction with | .down => s.setup.timers[k].period | .up => 0 })
        ∧ (¬ Reaches s (s.firedAt f) .timerStop k.val → ¬ Reaches s (s.firedAt f) .timerStart k.val →
            Reaches s (s.firedAt f) .timerResume k.val →
          t.timers[k] = if s.timers[k].phase = .held then { s.timers[k] with phase := .running } else s.timers[k])
        ∧ (¬ Reaches s (s.firedAt f) .timerStop k.val → ¬ Reaches s (s.firedAt f) .timerStart k.val →
            ¬ Reaches s (s.firedAt f) .timerResume k.val → t.timers[k] = s.timers[k]))

/-- R98: each NOTIFY binding that fires in the delivery of a taken frame offers one EVENT notice with the frame's number and its post-evaluation word, in binding-number order. R99: those that find the notice queue full are lost and counted. They stand before the notices of the units (`more`) when nothing else comes about during the work (log 7); with every unit IDLE and none armed there are no others. -/
def Obligations.NotifyBindingsQueueEvents : Prop :=
  ∀ (s : State) (f : HeldFrame) (events : List Notice), s.engine = .running → s.iface.holding = some f →
    events = ((s.firedAt f).filter fun b => s.setup.bindings[b].action = .notify).map (fun b =>
      .event b s.setup.bindings[b].source s.runNumber f.number (conditionWord (s.conditionsAt f))) →
    (s.firedAt f).Pairwise (fun a b => a < b)
    ∧ ∃ (t : State) (more : List Notice), exec (.take []) s = .next t
        ∧ t.link.notices = s.link.notices ++ events.take (16 - s.link.notices.length) ++ more
        ∧ ((∀ k : Fin 4, s.units[k].phase = .idle ∧ ¬ Reaches s (s.firedAt f) .unitArm k.val) →
            more = [] ∧ t.link.noticesLost = satInc^[events.length - (16 - s.link.notices.length)] s.link.noticesLost)

/-- R100, R102: SET_BINDING writes a record in every engine state; FIRE places the soft events it names while RUNNING, and is refused with STATE while STOPPED. -/
def Obligations.BindingAndSoftEventRequests : Prop :=
  ∀ s : State,
    (∀ (b : Fin 48) (r : Binding), r.InRange → Serves s 0x1E (BitVec.ofNat 8 b.val :: r.bytes) →
      exec .setBinding s = .next (State.answer (okay [])
        { s with setup := { s.setup with bindings := put s.setup.bindings b r } }))
    ∧ (∀ set : Byte, Serves s 0x20 [set] →
      (s.engine = .stopped → exec .fire s = .next (s.answer { status := .state, data := [] }))
      ∧ (s.engine = .running → 15 < set.toNat → exec .fire s = .next (s.answer { status := .badValue, data := [] }))
      ∧ (s.engine = .running → set.toNat ≤ 15 →
          ∃ t : State, exec .fire s = .next (t.answer (okay [set])) ∧ { t with events := s.events } = s
            ∧ ∀ id, id ∈ t.events ↔ id ∈ s.events ∨ ∃ n : Fin 4, set.getLsbD n.val = true ∧ id.val = 84 + n.val))

/-! ### The signal lines -/

/-- R110, R108: DRIVE_LINE in every engine state. R114, R113: SET_LINE writes an output or an input in every engine state and takes effect at once; an input whose running measurement has reached the new filter time is accepted as the change is made. -/
def Obligations.LineRequestsActAtOnce : Prop :=
  (∀ (s : State) (o : Fin 4) (op : Nat) (level : Bool), op ≤ 2 →
      level = (if op = 0 then true else if op = 1 then false else !s.actionLevels[o]) →
      Serves s 0x23 [BitVec.ofNat 8 o.val, BitVec.ofNat 8 op] →
      exec .driveLine s = .next (State.answer
        (okay [yesNo level, yesNo (pinLevel s.setup.outputs[o] level s.conditions)])
        { s with actionLevels := put s.actionLevels o level }))
  ∧ (∀ s : State,
      (∀ (o : Fin 4) (u : OutputSetup), Serves s 0x21 (BitVec.ofNat 8 o.val :: u.bytes) →
        exec .setLine s = .next (State.answer (okay [yesNo (pinLevel u s.actionLevels[o] s.conditions)])
          { s with setup := { s.setup with outputs := put s.setup.outputs o u } }))
      ∧ (∀ (i : Fin 2) (time : Nat) (f : Byte), Serves s 0x21 [BitVec.ofNat 8 (4 + i.val), f] →
        s.inputs[i].hold = some time → f.toNat * 24576 ≤ time * 1000 →
        exec .setLine s = .next (State.answer (okay [yesNo s.inputs[i].pin])
          { s with
            setup := { s.setup with filters := put s.setup.filters i f.toNat }
            inputs := put s.inputs i { s.inputs[i] with filtered := s.inputs[i].pin, hold := none }
            events := if s.engine = .running then
                insertId (if s.inputs[i].pin then evRise i else evFall i) s.events
              else s.events }))
      ∧ (∀ (i : Fin 2) (f : Byte), Serves s 0x21 [BitVec.ofNat 8 (4 + i.val), f] →
        (∀ time, s.inputs[i].hold = some time → time * 1000 < f.toNat * 24576) →
        exec .setLine s = .next (State.answer (okay [yesNo s.inputs[i].filtered])
          { s with setup := { s.setup with filters := put s.setup.filters i f.toNat } })))

/-- R111: a sample of an input pin: at the filtered level it ends the hold measurement, at the other level it starts one at zero or lets it run; with filter time 0 it is accepted at once. R111, R112: a level held for the filter time is accepted; while RUNNING its RISE or FALL is pending. A shorter time runs on. Time is counted in periods of the time base (log 11). -/
def Obligations.InputFilterHoldsThenAccepts : Prop :=
  (∀ (s : State) (i : Fin 2) (level : Bool),
      (level = s.inputs[i].filtered →
        exec (.inputPinChange i level) s =
          .next { s with inputs := put s.inputs i { s.inputs[i] with pin := level, hold := none } })
      ∧ (level ≠ s.inputs[i].filtered → s.inputs[i].hold = none → 0 < s.setup.filters[i] →
        exec (.inputPinChange i level) s =
          .next { s with inputs := put s.inputs i { s.inputs[i] with pin := level, hold := some 0 } })
      ∧ (∀ time, level ≠ s.inputs[i].filtered → s.inputs[i].hold = some time →
        exec (.inputPinChange i level) s = .next { s with inputs := put s.inputs i { s.inputs[i] with pin := level } })
      ∧ (level ≠ s.inputs[i].filtered → s.inputs[i].hold = none → s.setup.filters[i] = 0 →
        exec (.inputPinChange i level) s =
          .next
            { s with
              inputs := put s.inputs i { pin := level, filtered := level, hold := none }
              events := if s.engine = .running then insertId (if level then evRise i else evFall i) s.events else s.events }))
  ∧ (∀ (s : State) (i : Fin 2) (time periods : Nat), s.inputs[i].hold = some time →
      (s.setup.filters[i] * 24576 ≤ (time + periods) * 1000 →
        exec (.inputAccepted i periods) s =
          .next
            { s with
              inputs := put s.inputs i { s.inputs[i] with filtered := s.inputs[i].pin, hold := none }
              events := if s.engine = .running then
                  insertId (if s.inputs[i].pin then evRise i else evFall i) s.events
                else s.events })
      ∧ ((time + periods) * 1000 < s.setup.filters[i] * 24576 →
        exec (.inputAccepted i periods) s =
          .next { s with inputs := put s.inputs i { s.inputs[i] with hold := some (time + periods) } }))

/-! ### The capture units -/

/-- R122, R144: ARM_UNIT on an IDLE unit while RUNNING: the ring's pages pass to the unit, which goes to FILLING, or to ARMED when pre is 0; a refused claim answers NO_SPACE with the pages needed and the free count; on another unit it answers STATE. Which free pages serve the claim is the model's (log 12). The armed unit's trigger fields and first frame are the model's (log 17). -/
def Obligations.ArmUnitClaimsItsRing : Prop :=
  ∀ (s : State) (k : Fin 4) (needed : Nat), Serves s 0x26 [BitVec.ofNat 8 k.val] → s.engine = .running →
    needed = ringPages s.setup.units[k].mask s.setup.units[k].pre →
    (s.units[k].phase ≠ .idle → exec .armUnit s = .next (s.answer { status := .state, data := [] }))
    ∧ (s.units[k].phase = .idle → s.store.free.length < needed →
        exec .armUnit s = .next (s.answer
          { status := .noSpace, data := BitVec.ofNat 8 needed :: leBytes 2 s.store.free.length }))
    ∧ (s.units[k].phase = .idle → needed ≤ s.store.free.length →
        exec .armUnit s = .next (State.answer (okay [if s.setup.units[k].pre = 0 then 2 else 1])
          { s with
            units := put s.units k
              { clearedUnit with
                phase := if s.setup.units[k].pre = 0 then .armed else .filling
                prePages := s.store.free.take needed }
            store := { s.store with
              free := s.store.free.drop needed
              low := if s.store.free.length - needed < s.setup.store.lowWater then .low else .normal }
            events :=
              if s.setup.store.lowWater ≤ s.store.free.length
                  ∧ s.store.free.length - needed < s.setup.store.lowWater then
                insertId evStoreLow s.events
              else s.events }))

/-- R127 to R129, R144: TRIGGER_UNIT while RUNNING: an armed unit begins its post part with source 255 and the current word, and TRIGGERED is pending; in POST it is a retrigger; an IDLE unit answers STATE. R134, R135, R144: ABORT_UNIT while RUNNING: an armed unit gives its pages back; in POST the capture closes with ABORTED; an IDLE unit answers STATE. The order of the free list is the model's (log 12), as are the trigger fields of a cleared record (log 17). -/
def Obligations.TriggerAndAbortUnit : Prop :=
  (∀ (s : State) (k : Fin 4) (u : UnitState) (setup : UnitSetup), Serves s 0x27 [BitVec.ofNat 8 k.val] →
      s.engine = .running → u = s.units[k] → setup = s.setup.units[k] →
      (u.phase = .idle → exec .triggerUnit s = .next (s.answer { status := .state, data := [] }))
      ∧ (u.phase = .filling ∨ u.phase = .armed →
          exec .triggerUnit s = .next (State.answer (okay [3])
            { s with
              units := put s.units k
                { u with
                  phase := .post, preCount := u.historyCount, postCount := 0, remaining := setup.post
                  triggerFrame := none, triggerSource := 255, triggerWord := conditionWord s.conditions
                  firstFrame :=
                    if 0 < u.historyCount then u.ringFrames[(u.ringHead + setup.pre - u.historyCount) % setup.pre]?
                    else none }
              events := insertId (evTriggered k) s.events }))
      ∧ (u.phase = .post → setup.retrigger = .ignore →
          exec .triggerUnit s = .next (State.answer (okay [3])
            { s with units := put s.units k { u with extraTriggers := satInc u.extraTriggers } }))
      ∧ (u.phase = .post → setup.retrigger = .extend →
          exec .triggerUnit s = .next (State.answer (okay [3])
            { s with
              units := put s.units k
                { u with
                  remaining := setup.post, extensions := satInc u.extensions
                  flags := { u.flags with extended := true } } })))
  ∧ (∀ (s : State) (k : Fin 4), Serves s 0x28 [BitVec.ofNat 8 k.val] → s.engine = .running →
      (s.units[k].phase = .idle → exec .abortUnit s = .next (s.answer { status := .state, data := [] }))
      ∧ (s.units[k].phase = .filling ∨ s.units[k].phase = .armed →
          exec .abortUnit s = .next (State.answer (okay [0])
            { s with
              units := put s.units k clearedUnit
              store := { s.store with
                free := s.store.free ++ s.units[k].prePages
                low := if s.store.free.length + s.units[k].prePages.length < s.setup.store.lowWater then .low
                  else .normal } }))
      ∧ (s.units[k].phase = .post →
          exec .abortUnit s = .next (State.answer (okay [0]) (State.closeCapture k
            { s with
              units := put s.units k { s.units[k] with flags := { s.units[k].flags with aborted := true } } }))))

/-- R138, R156, R157: a close forms the record of the unit's working record and hands it over with the next free id: the index appends it, replaces the oldest record not held, or drops it, with its notices; CLOSED is raised while the engine runs, and the unit's working record is cleared. R128: a capture that closes with no trigger frame fixed takes the number after the last frame taken in the run, or 1. The order of the free list is the model's (log 12), as are the trigger fields of a cleared record (log 17). -/
def Obligations.CloseHandsTheCaptureOver : Prop :=
  ∀ (s : State) (k : Fin 4) (u : UnitState) (trigger : FrameNumber) (r : CaptureRecord), u = s.units[k] →
    trigger = (match u.triggerFrame, s.lastTaken with
      | some f, _ => f
      | none, some last => last + 1
      | none, none => 1) →
    r =
      { id := s.store.assigned, unit := k, run := s.runNumber, mask := s.setup.units[k].mask
        firstFrame := match u.firstFrame with | some f => f | none => trigger
        triggerFrame := trigger, preCount := u.preCount, postCount := u.postCount, flags := u.flags
        triggerSource := u.triggerSource, triggerWord := u.triggerWord, extensions := u.extensions
        extraTriggers := u.extraTriggers, gaps := u.gaps, held := false, pages := u.prePages ++ u.postPages
        ringHead := u.ringHead, pre := s.setup.units[k].pre } →
    ∃ t : State, t = s.closeCapture k
      ∧ t.units = put s.units k clearedUnit
      ∧ t.events = (if s.engine = .running then insertId (evClosed k) s.events else s.events)
      ∧ t.store.nextId = nextFromOne r.id ∧ t.store.mem = s.store.mem
      ∧ { t with units := s.units, events := s.events, store := s.store, link := s.link } = s
      ∧ (s.store.index.length < 32 →
          t.store.index = s.store.index ++ [r] ∧ t.store.free = s.store.free
          ∧ t.link = s.link.offerNotice
              (.captureClosed r.id k s.runNumber r.flags r.triggerFrame r.preCount r.postCount))
      ∧ (32 ≤ s.store.index.length →
          (s.setup.store.policy = .keepOld ∨ ∀ x ∈ s.store.index, x.held = true) →
          t.store.index = s.store.index ∧ t.store.free = s.store.free ++ r.pages
          ∧ t.link = s.link.offerNotice (.captureDropped .indexFull r.id k s.runNumber))
      ∧ (∀ before old after, 32 ≤ s.store.index.length → s.setup.store.policy = .replaceOld →
          s.store.index = before ++ old :: after → old.held = false → (∀ x ∈ before, x.held = true) →
          t.store.index = before ++ after ++ [r] ∧ t.store.free = s.store.free ++ old.pages
          ∧ t.link = (s.link.offerNotice (.captureDropped .replaced old.id old.unit old.run)).offerNotice
              (.captureClosed r.id k s.runNumber r.flags r.triggerFrame r.preCount r.postCount))

/-- R157: the id assigned is the first value, counting upward from the next capture id, that no record of the index has. -/
def Obligations.AssignedIdIsTheFirstFree : Prop :=
  ∀ t : Store, t.index.length ≤ 32 → t.nextId ≠ 0 →
    ∃ n ≤ 32, t.assigned = nextFromOne^[n] t.nextId ∧ t.assigned ≠ 0 ∧ (∀ r ∈ t.index, r.id ≠ t.assigned)
      ∧ ∀ j < n, ∃ r ∈ t.index, r.id = nextFromOne^[j] t.nextId

/-- R125, R126: a frame handled in FILLING or ARMED is written at the ring place the ring head names, and nowhere else; the ring head and the history count move on, a gap sets PRE_GAP, and a full ring makes the unit ARMED. The form of the words is the model's (log 13). R139, R160: the record that a trigger at that moment would form reads this frame at its last pre offset, and at each earlier offset the frame it read before, one offset later when the ring was full and the oldest frame was overwritten. -/
def Obligations.HistoryFrameIsStored : Prop :=
  ∀ (s : State) (k : Fin 4) (f : FrameNumber) (u : UnitState) (setup : UnitSetup) (pg : Page) (a : Nat),
    MemoryCanonical s → u = s.units[k] → setup = s.setup.units[k] → u.phase = .filling ∨ u.phase = .armed →
    0 < setup.pre → u.prePages[u.ringHead / framesPerPage setup.mask]? = some pg →
    a = frameAddress pg (laneCount setup.mask) (u.ringHead % framesPerPage setup.mask) →
    ∃ t : State, t = s.handleFrame k f
      ∧ (∀ x, x < a ∨ a + laneCount setup.mask ≤ x → Memory.read t.store.mem x = Memory.read s.store.mem x)
      ∧ Memory.readAll t.store.mem a (laneCount setup.mask) = selectedLanes setup.mask s.lanes
      ∧ { t with units := s.units, store := s.store } = s
      ∧ { t.store with mem := s.store.mem } = s.store
      ∧ ∀ count, count = (if u.historyCount = setup.pre then setup.pre else u.historyCount + 1) →
        t.units = put s.units k
          { u with
            phase := if count = setup.pre then .armed else u.phase
            historyCount := count
            ringHead := (u.ringHead + 1) % setup.pre
            ringFrames := if u.ringHead < u.ringFrames.length then u.ringFrames.set u.ringHead f
              else u.ringFrames ++ [f]
            lastStored := some f
            flags := { u.flags with
              preGap := u.flags.preGap
                || (match u.lastStored with | none => false | some l => decide (f ≠ l + 1)) } }
        ∧ (u.ringHead < setup.pre → u.historyCount ≤ setup.pre → ∀ r : CaptureRecord, r = { captureRecord k t with preCount := count } →
            t.store.frameAt r (count - 1) = selectedLanes setup.mask s.lanes
            ∧ (UnitInRange setup u → u.prePages.Nodup → ∀ j, j + 1 < count →
                t.store.frameAt r j =
                  s.store.frameAt { captureRecord k s with preCount := u.historyCount } (j + (u.historyCount + 1 - count))))

/-- R130, R131: a frame handled in POST with room in the open page is written at the next frame position, and nowhere else; a gap is entered; the counts move on; and the record formed reads the frame back at its offset. With remaining post above 1 the capture does not close here. R130 step 1: a frame that needs a page and gets it is handled as in a page already open. R130 step 5, R138, R141: the frame at which the remaining post reaches 0 is stored and the capture closes; with auto-rearm the unit then arms again, or reports. Which page serves a claim is the model's (log 12), as are the form of the words (log 13) and the trigger fields of a cleared record (log 17). -/
def Obligations.PostFrameIsStored : Prop :=
  (∀ (s : State) (k : Fin 4) (f : FrameNumber) (u : UnitState) (setup : UnitSetup) (pg : Page) (a : Nat),
    MemoryCanonical s → u = s.units[k] → setup = s.setup.units[k] → u.phase = .post → 1 < u.remaining → setup.mask ≠ 0 →
    u.preCount ≤ setup.pre → u.prePages.length = ringPages setup.mask setup.pre →
    u.postCount < u.postPages.length * framesPerPage setup.mask →
    u.postPages[u.postCount / framesPerPage setup.mask]? = some pg →
    a = frameAddress pg (laneCount setup.mask) (u.postCount % framesPerPage setup.mask) →
    ∃ t : State, t = s.handleFrame k f
      ∧ (∀ x, x < a ∨ a + laneCount setup.mask ≤ x → Memory.read t.store.mem x = Memory.read s.store.mem x)
      ∧ Memory.readAll t.store.mem a (laneCount setup.mask) = selectedLanes setup.mask s.lanes
      ∧ { t with units := s.units, store := s.store } = s
      ∧ { t.store with mem := s.store.mem } = s.store
      ∧ t.store.frameAt (captureRecord k t) (u.preCount + u.postCount) = selectedLanes setup.mask s.lanes
      ∧ t.units[k].postCount = u.postCount + 1 ∧ t.units[k].remaining = u.remaining - 1
      ∧ t.units[k].lastStored = some f ∧ t.units[k].phase = .post
      ∧ (u.lastStored = none ∨ u.lastStored = some (f - 1) →
          t.units[k].gaps = u.gaps ∧ t.units[k].flags = u.flags)
      ∧ (∀ l, u.lastStored = some l → f ≠ l + 1 → u.gaps.length < 8 →
          t.units[k].gaps = u.gaps ++ [{ offset := u.preCount + u.postCount
                                         missing := min (f - l - 1).toNat 4294967295 }]
          ∧ t.units[k].flags = u.flags)
      ∧ (∀ l, u.lastStored = some l → f ≠ l + 1 → 8 ≤ u.gaps.length →
          t.units[k].gaps = u.gaps ∧ t.units[k].flags = { u.flags with gapsOverflowed := true })
      ∧ ∀ j, j ≠ k → t.units[j] = s.units[j])
  ∧ (∀ (s : State) (k : Fin 4) (f : FrameNumber) (u : UnitState) (pg : Page) (rest : List Page),
      u = s.units[k] → u.phase = .post → s.setup.units[k].mask ≠ 0 →
      u.postCount = u.postPages.length * framesPerPage s.setup.units[k].mask → s.store.free = pg :: rest →
      s.handleFrame k f = State.handleFrame k f
        { s with
          units := put s.units k { u with postPages := u.postPages ++ [pg] }
          store := { s.store with
            free := rest, low := if rest.length < s.setup.store.lowWater then .low else .normal }
          events :=
            if s.engine = .running ∧ s.setup.store.lowWater ≤ rest.length + 1 ∧ rest.length < s.setup.store.lowWater then
              insertId evStoreLow s.events
            else s.events })
  ∧ (∀ (s : State) (k : Fin 4) (f : FrameNumber) (u : UnitState) (setup : UnitSetup) (pg : Page) (a : Nat),
      MemoryCanonical s → u = s.units[k] → setup = s.setup.units[k] → u.phase = .post → u.remaining = 1 →
      u.postCount < u.postPages.length * framesPerPage setup.mask →
      u.postPages[u.postCount / framesPerPage setup.mask]? = some pg →
      a = frameAddress pg (laneCount setup.mask) (u.postCount % framesPerPage setup.mask) →
      ∃ v : State, { v with units := s.units, store := s.store } = s ∧ { v.store with mem := s.store.mem } = s.store
        ∧ (∀ x, x < a ∨ a + laneCount setup.mask ≤ x → Memory.read v.store.mem x = Memory.read s.store.mem x)
        ∧ Memory.readAll v.store.mem a (laneCount setup.mask) = selectedLanes setup.mask s.lanes
        ∧ v.units[k].postCount = u.postCount + 1 ∧ v.units[k].remaining = 0 ∧ v.units[k].lastStored = some f
        ∧ v.units[k].prePages = u.prePages ∧ v.units[k].postPages = u.postPages ∧ v.units[k].preCount = u.preCount
        ∧ v.units[k].triggerFrame = u.triggerFrame ∧ v.units[k].firstFrame = u.firstFrame
        ∧ (∀ j, j ≠ k → v.units[j] = s.units[j])
        ∧ (setup.autoRearm = false → s.handleFrame k f = v.closeCapture k)
        ∧ (setup.autoRearm = true → ArmedOrReported k .autoRearm f (v.closeCapture k) (s.handleFrame k f)))

/-- R132, R133: a page refused in POST: TRUNCATE closes the capture with TRUNCATED, DISCARD drops it and returns its pages. R141: without auto-rearm the unit is then IDLE; with it the unit arms again at once, or reports. The order of the free list is the model's (log 12), as are the trigger fields of a cleared record (log 17). -/
def Obligations.RefusedPageClosesOrDrops : Prop :=
  (∀ (s : State) (k : Fin 4) (f : FrameNumber) (u : UnitState), u = s.units[k] → u.phase = .post →
    s.engine = .running → s.store.free = [] → s.setup.units[k].autoRearm = false →
    u.postCount = u.postPages.length * framesPerPage s.setup.units[k].mask →
    (s.setup.units[k].full = .truncate →
      s.handleFrame k f = State.closeCapture k
        { s with units := put s.units k { u with flags := { u.flags with truncated := true } } })
    ∧ (s.setup.units[k].full = .discard →
      s.handleFrame k f =
        { s with
          units := put s.units k clearedUnit
          store := { s.store with
            free := u.prePages ++ u.postPages
            low := if u.prePages.length + u.postPages.length < s.setup.store.lowWater then .low else .normal }
          link := s.link.offerNotice (.captureDropped .storeFull 0 k s.runNumber)
          events := insertId (evClosed k) s.events }))
  ∧ (∀ (s : State) (k : Fin 4) (f : FrameNumber) (u : UnitState), u = s.units[k] → u.phase = .post →
      s.engine = .running → s.store.free = [] → s.setup.units[k].autoRearm = true →
      u.postCount = u.postPages.length * framesPerPage s.setup.units[k].mask →
      (s.setup.units[k].full = .truncate →
        ArmedOrReported k .autoRearm f
          (State.closeCapture k
            { s with units := put s.units k { u with flags := { u.flags with truncated := true } } })
          (s.handleFrame k f))
      ∧ (s.setup.units[k].full = .discard →
        ArmedOrReported k .autoRearm f
          { s with
            units := put s.units k clearedUnit
            store := { s.store with
              free := u.prePages ++ u.postPages
              low := if u.prePages.length + u.postPages.length < s.setup.store.lowWater then .low else .normal }
            link := s.link.offerNotice (.captureDropped .storeFull 0 k s.runNumber)
            events := insertId (evClosed k) s.events }
          (s.handleFrame k f)))

/-- R136, R152: in the work of a taken frame each unit, K0 first, applies the action of highest precedence that reached it, ABORT over TRIGGER over ARM, and then handles the frame in the state the action left. R127: the trigger source is that of the lowest-numbered binding that gave the TRIGGER, the condition word that of the evaluation. R122, R123: a refused ARM is reported. R128: the take first gives a capture triggered by request its trigger frame. Which pages serve a claim is the model's (log 12), as are an armed unit's trigger fields (log 17). -/
def Obligations.UnitAppliesTheWinningAction : Prop :=
  ∀ (s : State) (f : HeldFrame) (work : Fin 4 → State → State), s.engine = .running → s.iface.holding = some f →
    (∀ k v, work k v =
      (v.unitAction (s.firedAt f) f.number (conditionWord (s.conditionsAt f)) k).handleFrame k f.number) →
    (∃ p : State, exec (.take []) s = .next (work 3 (work 2 (work 1 (work 0 p))))
      ∧ p.store = s.store ∧ p.setup = s.setup ∧ p.engine = .running ∧ p.runNumber = s.runNumber
      ∧ p.lastTaken = some f.number ∧ p.lanes = laneVector s.setup f
      ∧ ∀ k : Fin 4, p.units[k] =
          if s.units[k].phase = .post ∧ s.units[k].triggerFrame = none then
            { s.units[k] with
              triggerFrame := some f.number
              firstFrame := if s.units[k].preCount = 0 then some f.number else s.units[k].firstFrame }
          else s.units[k])
    ∧ ∀ (k : Fin 4) (v acted : State), v.setup = s.setup →
        acted = v.unitAction (s.firedAt f) f.number (conditionWord (s.conditionsAt f)) k →
        (Reaches s (s.firedAt f) .unitAbort k.val → acted = v.abortUnitBy k)
        ∧ (∀ b ∈ s.firedAt f, ¬ Reaches s (s.firedAt f) .unitAbort k.val →
            s.setup.bindings[b].action = .unitTrigger → s.setup.bindings[b].target = k.val →
            (∀ j ∈ s.firedAt f, s.setup.bindings[j].action = .unitTrigger → s.setup.bindings[j].target = k.val → b ≤ j) →
            acted = v.triggerUnitBy k (BitVec.ofNat 8 s.setup.bindings[b].source.val) (conditionWord (s.conditionsAt f))
              (some f.number))
        ∧ (¬ Reaches s (s.firedAt f) .unitAbort k.val → ¬ Reaches s (s.firedAt f) .unitTrigger k.val →
            Reaches s (s.firedAt f) .unitArm k.val → ArmedOrReported k .action f.number v acted)
        ∧ (¬ Reaches s (s.firedAt f) .unitAbort k.val → ¬ Reaches s (s.firedAt f) .unitTrigger k.val →
            ¬ Reaches s (s.firedAt f) .unitArm k.val → acted = v)

/-! ### The store and the index -/

/-- R161, R162, R163: LIST_CAPTURES, GET_CAPTURE and READ_FRAMES report; an id not in the index gives NOT_FOUND (R164, R165 too), an offset at or beyond the frames of the record BAD_VALUE. R139, R160: offset k of the pre part is a ring place counted from the ring head, wrapping; the later offsets are the post frames. The form of the words is the model's (log 13). -/
def Obligations.CaptureReadout : Prop :=
  ∀ s : State,
    (Serves s 0x29 [] →
      exec .listCaptures s = .next (s.answer (okay (BitVec.ofNat 8 s.store.index.length
        :: s.store.index.flatMap fun r => leBytes 2 r.id.toNat ++ [yesNo r.held]))))
    ∧ (∀ id : CaptureId, Serves s 0x2A (leBytes 2 id.toNat) → (∀ r ∈ s.store.index, r.id ≠ id) →
      exec .getCapture s = .next (s.answer { status := .notFound, data := [] }))
    ∧ (∀ id : CaptureId, (∀ r ∈ s.store.index, r.id ≠ id) →
      (∀ o0 o1 o2 count : Byte, Serves s 0x2B (leBytes 2 id.toNat ++ [o0, o1, o2, count]) →
        exec .readFrames s = .next (s.answer { status := .notFound, data := [] }))
      ∧ (∀ mark : Byte, Serves s 0x2C (leBytes 2 id.toNat ++ [mark]) →
        exec .holdCapture s = .next (s.answer { status := .notFound, data := [] }))
      ∧ (Serves s 0x2D (leBytes 2 id.toNat) →
        exec .releaseCapture s = .next (s.answer { status := .notFound, data := [] })))
    ∧ (∀ r ∈ s.store.index, ∀ (k : Nat) (pg : Page), k < r.preCount + r.postCount →
      (k < r.preCount → ∀ place, place = (r.ringHead + r.pre - r.preCount + k) % r.pre →
        r.pages[place / framesPerPage r.mask]? = some pg →
        s.store.frameAt r k =
          Memory.readAll s.store.mem (pg.val * 512 + place % framesPerPage r.mask * laneCount r.mask) (laneCount r.mask))
      ∧ (∀ j, k = r.preCount + j → r.pages[ringPages r.mask r.pre + j / framesPerPage r.mask]? = some pg →
        s.store.frameAt r k =
          Memory.readAll s.store.mem (pg.val * 512 + j % framesPerPage r.mask * laneCount r.mask) (laneCount r.mask)))
    ∧ (∀ r ∈ s.store.index, IndexConsistent s → Serves s 0x2A (leBytes 2 r.id.toNat) →
      exec .getCapture s = .next (s.answer (okay
        (leBytes 2 r.id.toNat ++ [BitVec.ofNat 8 r.unit.val] ++ leBytes 2 r.run.toNat ++ leBytes 2 r.mask.toNat
          ++ leBytes 5 r.firstFrame.toNat ++ leBytes 5 r.triggerFrame.toNat ++ leBytes 2 r.preCount
          ++ leBytes 3 r.postCount ++ [r.flags.toByte, r.triggerSource] ++ leBytes 4 r.triggerWord.toNat
          ++ [r.extensions, r.extraTriggers, yesNo r.held] ++ leBytes 2 r.pages.length ++ [BitVec.ofNat 8 r.gaps.length]
          ++ r.gaps.flatMap fun g => leBytes 3 g.offset ++ leBytes 4 g.missing))))
    ∧ (∀ r ∈ s.store.index, ∀ (offset : Nat) (count : Byte), IndexConsistent s → offset < 16777216 →
      Serves s 0x2B (leBytes 2 r.id.toNat ++ leBytes 3 offset ++ [count]) →
      (r.preCount + r.postCount ≤ offset →
        exec .readFrames s = .next (s.answer { status := .badValue, data := [] }))
      ∧ (∀ m, offset < r.preCount + r.postCount →
          m = min (if count = 0 then r.preCount + r.postCount - offset else count.toNat)
            (min (241 / (3 * laneCount r.mask)) (r.preCount + r.postCount - offset)) →
          exec .readFrames s = .next (s.answer (okay
            (leBytes 2 r.id.toNat ++ leBytes 3 offset ++ [BitVec.ofNat 8 m]
              ++ (List.range m).flatMap fun i => (s.store.frameAt r (offset + i)).flatMap laneBytes)))))

/-- R164, R165: HOLD_CAPTURE writes the held mark of the named record alone; RELEASE_CAPTURE removes the record, held or not, and returns its pages. R167, R154, R168: SET_STORE writes the settings and sets the low-water state at once without an event; GET_STORE reports the store. The order of the free list is the model's (log 12). -/
def Obligations.HoldReleaseAndStoreSettings : Prop :=
  (∀ (s : State) (before after : List CaptureRecord) (r : CaptureRecord), IndexConsistent s →
      s.store.index = before ++ r :: after →
      (∀ mark : Bool, Serves s 0x2C (leBytes 2 r.id.toNat ++ [yesNo mark]) →
        exec .holdCapture s = .next (State.answer (okay [yesNo mark])
          { s with store := { s.store with index := before ++ { r with held := mark } :: after } }))
      ∧ (Serves s 0x2D (leBytes 2 r.id.toNat) →
        exec .releaseCapture s = .next (State.answer
          (okay (leBytes 2 r.pages.length ++ leBytes 2 (s.store.free.length + r.pages.length)))
          { s with
            store := { s.store with
              index := before ++ after
              free := s.store.free ++ r.pages
              low := if s.store.free.length + r.pages.length < s.setup.store.lowWater then .low else .normal } })))
  ∧ (∀ s : State,
      (∀ u : StoreSetup, u.lowWater ≤ 255 → Serves s 0x2E u.bytes → ∀ state : LowWater,
        state = (if s.store.free.length < u.lowWater then .low else .normal) →
        exec .setStore s = .next (State.answer (okay [if state = .low then 1 else 0])
          { s with setup := { s.setup with store := u }, store := { s.store with low := state } }))
      ∧ (Serves s 0x2F [] →
        exec .getStore s = .next (s.answer (okay
          (s.setup.store.bytes ++ [if s.store.low = .low then 1 else 0] ++ leBytes 2 s.store.free.length
            ++ leBytes 2 s.unitPages.length ++ leBytes 2 s.recordPages.length
            ++ [BitVec.ofNat 8 s.store.index.length, BitVec.ofNat 8 (s.store.index.filter CaptureRecord.held).length]
            ++ leBytes 2 s.store.nextId.toNat)))))

/-! ### The reports of the blocks -/

/-- R22, R42, R63, R78, R101, R115, R143: the GET requests of the blocks report the setup in the encoding of the SET request, then the runtime state, and change nothing. That a report leaves out the index is the model's reading (log 22). -/
def Obligations.GetRequestsReport : Prop :=
  ∀ s : State,
    (∀ (target : Fin 3) (fields : List Byte), Serves s 0x11 [BitVec.ofNat 8 target.val] →
      fields = (if target = 0 then s.setup.portA.bytes else if target = 1 then s.setup.portB.bytes
        else s.setup.interface.bytes) →
      exec .getPort s = .next (s.answer (okay
        (fields ++ [codeOf IfaceState.codes s.iface.state, yesNo s.iface.holding.isSome]
          ++ leBytes 5 s.iface.frameNumber.toNat ++ leBytes 2 s.iface.shortFrames.toNat ++ leBytes 2 s.iface.overruns.toNat
          ++ leBytes 2 s.iface.syncLosses.toNat))))
    ∧ (∀ m : Fin 16, Serves s 0x13 [BitVec.ofNat 8 m.val] →
      exec .getMeasure s = .next (s.answer (okay
        (s.setup.measures[m].bytes ++ laneBytes s.measures[m].output ++ leBytes 2 s.measures[m].position
          ++ [yesNo s.measures[m].fresh]))))
    ∧ (∀ c : Fin 32, Serves s 0x15 [BitVec.ofNat 8 c.val] →
      exec .getCondition s = .next (s.answer (okay
        (s.setup.conditions[c].bytes
          ++ [match s.conditions[c].phase with | .disarmed => 0 | .watching => 1 | .asserted => 2,
              BitVec.ofNat 8 s.conditions[c].runCount]
          ++ leBytes 2 s.conditions[c].assertions.toNat))))
    ∧ (∀ k : Fin 4, Serves s 0x1A [BitVec.ofNat 8 k.val] →
      exec .getTimer s = .next (s.answer (okay
        (s.setup.timers[k].bytes ++ [(match s.timers[k].phase with | .idle => 0 | .running => 1 | .held => 2 : Byte)]
          ++ leBytes 3 s.timers[k].count ++ leBytes 2 s.timers[k].expiries.toNat))))
    ∧ (∀ b : Fin 48, Serves s 0x1F [BitVec.ofNat 8 b.val] →
      exec .getBinding s = .next (s.answer (okay s.setup.bindings[b].bytes)))
    ∧ (Serves s 0x22 [] →
      exec .getLines s = .next (s.answer (okay
        (((List.finRange 4).flatMap fun o => s.setup.outputs[o].bytes ++ [yesNo s.actionLevels[o], yesNo (s.pin o)])
          ++ (List.finRange 2).flatMap fun i =>
            [BitVec.ofNat 8 s.setup.filters[i], yesNo s.inputs[i].filtered, yesNo s.inputs[i].pin]))))
    ∧ (∀ k : Fin 4, Serves s 0x25 [BitVec.ofNat 8 k.val] →
      exec .getUnit s = .next (s.answer (okay
        (s.setup.units[k].bytes
          ++ [(match s.units[k].phase with | .idle => 0 | .filling => 1 | .armed => 2 | .post => 3 : Byte)]
          ++ leBytes 2 s.units[k].historyCount ++ leBytes 3 s.units[k].postCount ++ leBytes 2 s.units[k].remaining
          ++ leBytes 2 (s.units[k].prePages.length + s.units[k].postPages.length)
          ++ [s.units[k].flags.toByte, s.units[k].extensions, s.units[k].extraTriggers,
              BitVec.ofNat 8 s.units[k].gaps.length]))))

/-- R179: a request whose rule refuses it changes nothing but the link; this covers every request but RESTART, SAVE_SETUP and LOAD_SETUP, whose refusals the last clauses give. The checks that come first: for the indexed requests an empty payload is BAD_LENGTH, an index out of range BAD_INDEX, a payload of another length BAD_LENGTH (R21, R22, R41, R42, R60, R62, R63, R75, R77, R78, R100, R101, R110, R114, R142 to R144); for the others a payload of another length is BAD_LENGTH. An operation of DRIVE_LINE above 2 is BAD_VALUE. R60, R75, R144: STATE while STOPPED. R196, R197: STATE while RUNNING. -/
def Obligations.RefusalsComeInOrderAndChangeNothing : Prop :=
  (∀ (s : State) (payload : List Byte) (act : List Byte → State → State × Answer),
      act ∈ [identifyRequest, statusRequest, runRequest, stopRequest, defaultRequest, autorunRequest, setPort, getPort,
        setMeasure, getMeasure, setCondition, getCondition, conditionRequest condArm, conditionRequest condDisarm,
        conditionRequest condUnlatch, setTimer, getTimer, timerRequest timerStart, timerRequest timerStop,
        timerRequest timerResume, setBinding, getBinding, fire, setLine, getLines, driveLine, setUnit, getUnit,
        unitRequest armRequest, unitRequest triggerRequest, unitRequest abortRequest, listCaptures, getCapture, readFrames,
        holdCapture, releaseCapture, setStore, getStore] →
      (act payload s).2.status ≠ .ok → (act payload s).1 = s)
  ∧ (∀ (s : State) (kind : Byte) (c : Instr) (entries length : Nat) (payload : List Byte),
      (kind, c, entries, length) ∈ [(0x12, .setMeasure, 16, 7), (0x14, .setCondition, 32, 15), (0x19, .setTimer, 4, 7),
        (0x1E, .setBinding, 48, 7), (0x24, .setUnit, 4, 11)] →
      Serves s kind payload →
      (payload = [] → exec c s = .next (s.answer { status := .badLength, data := [] }))
      ∧ (∀ i fields, payload = i :: fields → entries ≤ i.toNat →
          exec c s = .next (s.answer { status := .badIndex, data := [] }))
      ∧ (∀ i fields, payload = i :: fields → i.toNat < entries → payload.length ≠ length →
          exec c s = .next (s.answer { status := .badLength, data := [] })))
  ∧ (∀ (s : State) (kind : Byte) (c : Instr) (entries : Nat) (payload : List Byte),
      (kind, c, entries) ∈ [(0x11, .getPort, 3), (0x13, .getMeasure, 16), (0x15, .getCondition, 32),
        (0x16, .armCondition, 32), (0x17, .disarmCondition, 32), (0x18, .unlatchCondition, 32), (0x1A, .getTimer, 4),
        (0x1B, .startTimer, 4), (0x1C, .stopTimer, 4), (0x1D, .resumeTimer, 4), (0x1F, .getBinding, 48),
        (0x25, .getUnit, 4), (0x26, .armUnit, 4), (0x27, .triggerUnit, 4), (0x28, .abortUnit, 4)] →
      Serves s kind payload →
      (payload.length ≠ 1 → exec c s = .next (s.answer { status := .badLength, data := [] }))
      ∧ (∀ i, payload = [i] → entries ≤ i.toNat → exec c s = .next (s.answer { status := .badIndex, data := [] })))
  ∧ (∀ (s : State) (payload : List Byte), Serves s 0x10 payload →
      (payload = [] → exec .setPort s = .next (s.answer { status := .badLength, data := [] }))
      ∧ (∀ i fields, payload = i :: fields → 3 ≤ i.toNat →
          exec .setPort s = .next (s.answer { status := .badIndex, data := [] }))
      ∧ (∀ i fields, payload = i :: fields → i.toNat < 3 → fields.length ≠ (if i.toNat = 2 then 5 else 7) →
          exec .setPort s = .next (s.answer { status := .badLength, data := [] })))
  ∧ (∀ (s : State) (payload : List Byte), Serves s 0x21 payload →
      (payload = [] → exec .setLine s = .next (s.answer { status := .badLength, data := [] }))
      ∧ (∀ i fields, payload = i :: fields → 6 ≤ i.toNat →
          exec .setLine s = .next (s.answer { status := .badIndex, data := [] }))
      ∧ (∀ i fields, payload = i :: fields → i.toNat < 6 → fields.length ≠ (if i.toNat < 4 then 3 else 1) →
          exec .setLine s = .next (s.answer { status := .badLength, data := [] })))
  ∧ (∀ (s : State) (payload : List Byte), Serves s 0x23 payload →
      (payload.length ≠ 2 → exec .driveLine s = .next (s.answer { status := .badLength, data := [] }))
      ∧ (∀ o op, payload = [o, op] → 4 ≤ o.toNat → exec .driveLine s = .next (s.answer { status := .badIndex, data := [] }))
      ∧ (∀ o op, payload = [o, op] → o.toNat < 4 → 3 ≤ op.toNat →
          exec .driveLine s = .next (s.answer { status := .badValue, data := [] })))
  ∧ (∀ (s : State) (kind : Byte) (c : Instr) (length : Nat) (payload : List Byte),
      (kind, c, length) ∈ [(0x01, .identify, 0), (0x02, .status, 1), (0x03, .run, 0), (0x04, .stop, 0), (0x05, .restart, 0),
        (0x06, .saveSetup, 0), (0x07, .loadSetup, 0), (0x08, .defaultSetup, 0), (0x09, .setAutorun, 1), (0x20, .fire, 1),
        (0x22, .getLines, 0), (0x29, .listCaptures, 0), (0x2A, .getCapture, 2), (0x2B, .readFrames, 6),
        (0x2C, .holdCapture, 3), (0x2D, .releaseCapture, 2), (0x2E, .setStore, 2), (0x2F, .getStore, 0)] →
      Serves s kind payload → payload.length ≠ length →
      exec c s = .next (s.answer { status := .badLength, data := [] }))
  ∧ (∀ (s : State) (kind : Byte) (c : Instr) (entries : Nat) (i : Byte),
      (kind, c, entries) ∈ [(0x16, .armCondition, 32), (0x17, .disarmCondition, 32), (0x18, .unlatchCondition, 32),
        (0x1B, .startTimer, 4), (0x1C, .stopTimer, 4), (0x1D, .resumeTimer, 4), (0x26, .armUnit, 4),
        (0x27, .triggerUnit, 4), (0x28, .abortUnit, 4)] →
      Serves s kind [i] → i.toNat < entries → s.engine = .stopped →
      exec c s = .next (s.answer { status := .state, data := [] }))
  ∧ (∀ s : State, s.engine = .running →
      (Serves s 0x07 [] → exec .loadSetup s = .next (s.answer { status := .state, data := [] }))
      ∧ (Serves s 0x08 [] → exec .defaultSetup s = .next (s.answer { status := .state, data := [] })))

end Slice0
end

