-- ==== Sys2Proof/Laws/Events.lean ====
section
/-! SUPPORT. The pending event set: what adding an id gives, and that the set stays strictly rising. -/

namespace Sys2Proof.Machine

theorem mem_insertId (x y : EventId) (es : List EventId) : y ∈ insertId x es ↔ y = x ∨ y ∈ es := by
  induction es with
  | nil => simp [insertId]
  | cons z zs ih =>
    simp only [insertId]
    split
    · simp
    · split
      · rename_i e; subst e; simp
      · simp only [List.mem_cons, ih]; tauto

theorem mem_unionIds (xs ys : List EventId) (y : EventId) : y ∈ unionIds xs ys ↔ y ∈ xs ∨ y ∈ ys := by
  induction xs with
  | nil => simp [unionIds]
  | cons x xs ih =>
    have : unionIds (x :: xs) ys = insertId x (unionIds xs ys) := rfl
    rw [this, mem_insertId, ih, List.mem_cons]
    tauto

/-- An id already present merges with the one present (R84). -/
theorem insertId_present (x : EventId) (es : List EventId) (h : es.Pairwise (fun a b => a.val < b.val)) (m : x ∈ es) :
    insertId x es = es := by
  induction es with
  | nil => cases m
  | cons z zs ih =>
    obtain ⟨hz, hzs⟩ := List.pairwise_cons.1 h
    simp only [insertId]
    rcases List.mem_cons.1 m with e | m
    · subst e; simp
    · have := hz x m
      rw [if_neg (by omega), if_neg (by intro e; subst e; omega), ih hzs m]

theorem insertId_sorted (x : EventId) (es : List EventId) (h : es.Pairwise (fun a b => a.val < b.val)) :
    (insertId x es).Pairwise (fun a b => a.val < b.val) := by
  induction es with
  | nil => simp [insertId]
  | cons z zs ih =>
    obtain ⟨hz, hzs⟩ := List.pairwise_cons.1 h
    simp only [insertId]
    split
    · rename_i hx
      refine List.pairwise_cons.2 ⟨?_, h⟩
      intro y hy
      rcases List.mem_cons.1 hy with e | m
      · subst e; exact hx
      · exact Nat.lt_trans hx (hz y m)
    · split
      · exact h
      · rename_i h1 h2
        refine List.pairwise_cons.2 ⟨?_, ih hzs⟩
        intro y hy
        rcases (mem_insertId x y zs).1 hy with e | m
        · subst e
          have : z.val ≠ y.val := fun e => h2 (Fin.ext e.symm)
          omega
        · exact hz y m

/-- R84, R85: what raising an event does to the pending event set. -/
theorem State.raise_events (id : EventId) (s : State) :
    (s.raise id).events = if s.engine = .running then insertId id s.events else s.events := by
  unfold State.raise
  split <;> simp [*]

theorem State.raise_running (id : EventId) (s : State) (h : s.engine = .running) :
    s.raise id = { s with events := insertId id s.events } := by
  unfold State.raise
  rw [h]

theorem State.raise_stopped (id : EventId) (s : State) (h : s.engine = .stopped) : s.raise id = s := by
  unfold State.raise
  rw [h]

theorem State.raise_sorted (id : EventId) (s : State) (h : s.events.Pairwise (fun a b => a.val < b.val)) :
    (s.raise id).events.Pairwise (fun a b => a.val < b.val) := by
  rw [State.raise_events]
  split
  · exact insertId_sorted id _ h
  · exact h

/-- Which bindings fire (R94). -/
theorem mem_firedBindings (bs : Vector Binding 48) (d : List EventId) (cs : Vector ConditionState 32) (b : Fin 48) :
    b ∈ firedBindings bs d cs ↔ fires bs[b] d cs = true := by
  simp [firedBindings]

end Sys2Proof.Machine
end

