-- ==== Sys2Proof/Laws/State.lean ====
section
/-! SUPPORT. What the named updates leave alone: one lemma per field per update, so that no later proof unfolds a record update. -/

namespace Sys2Proof.Machine

/-! ### raise -/

@[simp] theorem State.raise_engine (id : EventId) (s : State) : (s.raise id).engine = s.engine :=
  by unfold State.raise; split <;> rfl
@[simp] theorem State.raise_runNumber (id : EventId) (s : State) : (s.raise id).runNumber = s.runNumber :=
  by unfold State.raise; split <;> rfl
@[simp] theorem State.raise_setup (id : EventId) (s : State) : (s.raise id).setup = s.setup :=
  by unfold State.raise; split <;> rfl
@[simp] theorem State.raise_image (id : EventId) (s : State) : (s.raise id).image = s.image :=
  by unfold State.raise; split <;> rfl
@[simp] theorem State.raise_startup (id : EventId) (s : State) : (s.raise id).startup = s.startup :=
  by unfold State.raise; split <;> rfl
@[simp] theorem State.raise_iface (id : EventId) (s : State) : (s.raise id).iface = s.iface :=
  by unfold State.raise; split <;> rfl
@[simp] theorem State.raise_lanes (id : EventId) (s : State) : (s.raise id).lanes = s.lanes :=
  by unfold State.raise; split <;> rfl
@[simp] theorem State.raise_lastTaken (id : EventId) (s : State) : (s.raise id).lastTaken = s.lastTaken :=
  by unfold State.raise; split <;> rfl
@[simp] theorem State.raise_measures (id : EventId) (s : State) : (s.raise id).measures = s.measures :=
  by unfold State.raise; split <;> rfl
@[simp] theorem State.raise_conditions (id : EventId) (s : State) : (s.raise id).conditions = s.conditions :=
  by unfold State.raise; split <;> rfl
@[simp] theorem State.raise_timers (id : EventId) (s : State) : (s.raise id).timers = s.timers :=
  by unfold State.raise; split <;> rfl
@[simp] theorem State.raise_actionLevels (id : EventId) (s : State) : (s.raise id).actionLevels = s.actionLevels :=
  by unfold State.raise; split <;> rfl
@[simp] theorem State.raise_workPins (id : EventId) (s : State) : (s.raise id).workPins = s.workPins :=
  by unfold State.raise; split <;> rfl
@[simp] theorem State.raise_inputs (id : EventId) (s : State) : (s.raise id).inputs = s.inputs :=
  by unfold State.raise; split <;> rfl
@[simp] theorem State.raise_units (id : EventId) (s : State) : (s.raise id).units = s.units :=
  by unfold State.raise; split <;> rfl
@[simp] theorem State.raise_store (id : EventId) (s : State) : (s.raise id).store = s.store :=
  by unfold State.raise; split <;> rfl
@[simp] theorem State.raise_link (id : EventId) (s : State) : (s.raise id).link = s.link :=
  by unfold State.raise; split <;> rfl
@[simp] theorem State.raise_pending (id : EventId) (s : State) : (s.raise id).pending = s.pending :=
  by unfold State.raise; split <;> rfl

/-! ### notify -/

@[simp] theorem State.notify_engine (n : Notice) (s : State) : (s.notify n).engine = s.engine := rfl
@[simp] theorem State.notify_runNumber (n : Notice) (s : State) : (s.notify n).runNumber = s.runNumber := rfl
@[simp] theorem State.notify_setup (n : Notice) (s : State) : (s.notify n).setup = s.setup := rfl
@[simp] theorem State.notify_image (n : Notice) (s : State) : (s.notify n).image = s.image := rfl
@[simp] theorem State.notify_startup (n : Notice) (s : State) : (s.notify n).startup = s.startup := rfl
@[simp] theorem State.notify_iface (n : Notice) (s : State) : (s.notify n).iface = s.iface := rfl
@[simp] theorem State.notify_lanes (n : Notice) (s : State) : (s.notify n).lanes = s.lanes := rfl
@[simp] theorem State.notify_lastTaken (n : Notice) (s : State) : (s.notify n).lastTaken = s.lastTaken := rfl
@[simp] theorem State.notify_measures (n : Notice) (s : State) : (s.notify n).measures = s.measures := rfl
@[simp] theorem State.notify_conditions (n : Notice) (s : State) : (s.notify n).conditions = s.conditions := rfl
@[simp] theorem State.notify_timers (n : Notice) (s : State) : (s.notify n).timers = s.timers := rfl
@[simp] theorem State.notify_events (n : Notice) (s : State) : (s.notify n).events = s.events := rfl
@[simp] theorem State.notify_actionLevels (n : Notice) (s : State) : (s.notify n).actionLevels = s.actionLevels := rfl
@[simp] theorem State.notify_workPins (n : Notice) (s : State) : (s.notify n).workPins = s.workPins := rfl
@[simp] theorem State.notify_inputs (n : Notice) (s : State) : (s.notify n).inputs = s.inputs := rfl
@[simp] theorem State.notify_units (n : Notice) (s : State) : (s.notify n).units = s.units := rfl
@[simp] theorem State.notify_store (n : Notice) (s : State) : (s.notify n).store = s.store := rfl
@[simp] theorem State.notify_pending (n : Notice) (s : State) : (s.notify n).pending = s.pending := rfl

/-! ### answer -/

@[simp] theorem State.answer_engine (a : Answer) (s : State) : (s.answer a).engine = s.engine :=
  by unfold State.answer; split <;> rfl
@[simp] theorem State.answer_runNumber (a : Answer) (s : State) : (s.answer a).runNumber = s.runNumber :=
  by unfold State.answer; split <;> rfl
@[simp] theorem State.answer_setup (a : Answer) (s : State) : (s.answer a).setup = s.setup :=
  by unfold State.answer; split <;> rfl
@[simp] theorem State.answer_image (a : Answer) (s : State) : (s.answer a).image = s.image :=
  by unfold State.answer; split <;> rfl
@[simp] theorem State.answer_startup (a : Answer) (s : State) : (s.answer a).startup = s.startup :=
  by unfold State.answer; split <;> rfl
@[simp] theorem State.answer_iface (a : Answer) (s : State) : (s.answer a).iface = s.iface :=
  by unfold State.answer; split <;> rfl
@[simp] theorem State.answer_lanes (a : Answer) (s : State) : (s.answer a).lanes = s.lanes :=
  by unfold State.answer; split <;> rfl
@[simp] theorem State.answer_lastTaken (a : Answer) (s : State) : (s.answer a).lastTaken = s.lastTaken :=
  by unfold State.answer; split <;> rfl
@[simp] theorem State.answer_measures (a : Answer) (s : State) : (s.answer a).measures = s.measures :=
  by unfold State.answer; split <;> rfl
@[simp] theorem State.answer_conditions (a : Answer) (s : State) : (s.answer a).conditions = s.conditions :=
  by unfold State.answer; split <;> rfl
@[simp] theorem State.answer_timers (a : Answer) (s : State) : (s.answer a).timers = s.timers :=
  by unfold State.answer; split <;> rfl
@[simp] theorem State.answer_events (a : Answer) (s : State) : (s.answer a).events = s.events :=
  by unfold State.answer; split <;> rfl
@[simp] theorem State.answer_actionLevels (a : Answer) (s : State) : (s.answer a).actionLevels = s.actionLevels :=
  by unfold State.answer; split <;> rfl
@[simp] theorem State.answer_workPins (a : Answer) (s : State) : (s.answer a).workPins = s.workPins :=
  by unfold State.answer; split <;> rfl
@[simp] theorem State.answer_inputs (a : Answer) (s : State) : (s.answer a).inputs = s.inputs :=
  by unfold State.answer; split <;> rfl
@[simp] theorem State.answer_units (a : Answer) (s : State) : (s.answer a).units = s.units :=
  by unfold State.answer; split <;> rfl
@[simp] theorem State.answer_store (a : Answer) (s : State) : (s.answer a).store = s.store :=
  by unfold State.answer; split <;> rfl
@[simp] theorem State.answer_pending (a : Answer) (s : State) : (s.answer a).pending = s.pending :=
  by unfold State.answer; split <;> rfl

/-! ### setUnitState -/

@[simp] theorem State.setUnitState_engine (k : Fin 4) (u : UnitState) (s : State) :
    (s.setUnitState k u).engine = s.engine :=
  rfl
@[simp] theorem State.setUnitState_runNumber (k : Fin 4) (u : UnitState) (s : State) :
    (s.setUnitState k u).runNumber = s.runNumber :=
  rfl
@[simp] theorem State.setUnitState_setup (k : Fin 4) (u : UnitState) (s : State) :
    (s.setUnitState k u).setup = s.setup :=
  rfl
@[simp] theorem State.setUnitState_image (k : Fin 4) (u : UnitState) (s : State) :
    (s.setUnitState k u).image = s.image :=
  rfl
@[simp] theorem State.setUnitState_startup (k : Fin 4) (u : UnitState) (s : State) :
    (s.setUnitState k u).startup = s.startup :=
  rfl
@[simp] theorem State.setUnitState_iface (k : Fin 4) (u : UnitState) (s : State) :
    (s.setUnitState k u).iface = s.iface :=
  rfl
@[simp] theorem State.setUnitState_lanes (k : Fin 4) (u : UnitState) (s : State) :
    (s.setUnitState k u).lanes = s.lanes :=
  rfl
@[simp] theorem State.setUnitState_lastTaken (k : Fin 4) (u : UnitState) (s : State) :
    (s.setUnitState k u).lastTaken = s.lastTaken :=
  rfl
@[simp] theorem State.setUnitState_measures (k : Fin 4) (u : UnitState) (s : State) :
    (s.setUnitState k u).measures = s.measures :=
  rfl
@[simp] theorem State.setUnitState_conditions (k : Fin 4) (u : UnitState) (s : State) :
    (s.setUnitState k u).conditions = s.conditions :=
  rfl
@[simp] theorem State.setUnitState_timers (k : Fin 4) (u : UnitState) (s : State) :
    (s.setUnitState k u).timers = s.timers :=
  rfl
@[simp] theorem State.setUnitState_events (k : Fin 4) (u : UnitState) (s : State) :
    (s.setUnitState k u).events = s.events :=
  rfl
@[simp] theorem State.setUnitState_actionLevels (k : Fin 4) (u : UnitState) (s : State) :
    (s.setUnitState k u).actionLevels = s.actionLevels :=
  rfl
@[simp] theorem State.setUnitState_workPins (k : Fin 4) (u : UnitState) (s : State) :
    (s.setUnitState k u).workPins = s.workPins :=
  rfl
@[simp] theorem State.setUnitState_inputs (k : Fin 4) (u : UnitState) (s : State) :
    (s.setUnitState k u).inputs = s.inputs :=
  rfl
@[simp] theorem State.setUnitState_store (k : Fin 4) (u : UnitState) (s : State) :
    (s.setUnitState k u).store = s.store :=
  rfl
@[simp] theorem State.setUnitState_link (k : Fin 4) (u : UnitState) (s : State) : (s.setUnitState k u).link = s.link :=
  rfl
@[simp] theorem State.setUnitState_pending (k : Fin 4) (u : UnitState) (s : State) :
    (s.setUnitState k u).pending = s.pending :=
  rfl

/-! ### writeFrame -/

@[simp] theorem State.writeFrame_engine (pg : Page) (pos : Nat) (mask : BitVec 16) (s : State) :
    (s.writeFrame pg pos mask).engine = s.engine :=
  rfl
@[simp] theorem State.writeFrame_runNumber (pg : Page) (pos : Nat) (mask : BitVec 16) (s : State) :
    (s.writeFrame pg pos mask).runNumber = s.runNumber :=
  rfl
@[simp] theorem State.writeFrame_setup (pg : Page) (pos : Nat) (mask : BitVec 16) (s : State) :
    (s.writeFrame pg pos mask).setup = s.setup :=
  rfl
@[simp] theorem State.writeFrame_image (pg : Page) (pos : Nat) (mask : BitVec 16) (s : State) :
    (s.writeFrame pg pos mask).image = s.image :=
  rfl
@[simp] theorem State.writeFrame_startup (pg : Page) (pos : Nat) (mask : BitVec 16) (s : State) :
    (s.writeFrame pg pos mask).startup = s.startup :=
  rfl
@[simp] theorem State.writeFrame_iface (pg : Page) (pos : Nat) (mask : BitVec 16) (s : State) :
    (s.writeFrame pg pos mask).iface = s.iface :=
  rfl
@[simp] theorem State.writeFrame_lanes (pg : Page) (pos : Nat) (mask : BitVec 16) (s : State) :
    (s.writeFrame pg pos mask).lanes = s.lanes :=
  rfl
@[simp] theorem State.writeFrame_lastTaken (pg : Page) (pos : Nat) (mask : BitVec 16) (s : State) :
    (s.writeFrame pg pos mask).lastTaken = s.lastTaken :=
  rfl
@[simp] theorem State.writeFrame_measures (pg : Page) (pos : Nat) (mask : BitVec 16) (s : State) :
    (s.writeFrame pg pos mask).measures = s.measures :=
  rfl
@[simp] theorem State.writeFrame_conditions (pg : Page) (pos : Nat) (mask : BitVec 16) (s : State) :
    (s.writeFrame pg pos mask).conditions = s.conditions :=
  rfl
@[simp] theorem State.writeFrame_timers (pg : Page) (pos : Nat) (mask : BitVec 16) (s : State) :
    (s.writeFrame pg pos mask).timers = s.timers :=
  rfl
@[simp] theorem State.writeFrame_events (pg : Page) (pos : Nat) (mask : BitVec 16) (s : State) :
    (s.writeFrame pg pos mask).events = s.events :=
  rfl
@[simp] theorem State.writeFrame_actionLevels (pg : Page) (pos : Nat) (mask : BitVec 16) (s : State) :
    (s.writeFrame pg pos mask).actionLevels = s.actionLevels :=
  rfl
@[simp] theorem State.writeFrame_workPins (pg : Page) (pos : Nat) (mask : BitVec 16) (s : State) :
    (s.writeFrame pg pos mask).workPins = s.workPins :=
  rfl
@[simp] theorem State.writeFrame_inputs (pg : Page) (pos : Nat) (mask : BitVec 16) (s : State) :
    (s.writeFrame pg pos mask).inputs = s.inputs :=
  rfl
@[simp] theorem State.writeFrame_units (pg : Page) (pos : Nat) (mask : BitVec 16) (s : State) :
    (s.writeFrame pg pos mask).units = s.units :=
  rfl
@[simp] theorem State.writeFrame_link (pg : Page) (pos : Nat) (mask : BitVec 16) (s : State) :
    (s.writeFrame pg pos mask).link = s.link :=
  rfl
@[simp] theorem State.writeFrame_pending (pg : Page) (pos : Nat) (mask : BitVec 16) (s : State) :
    (s.writeFrame pg pos mask).pending = s.pending :=
  rfl

/-! ### giveBack -/

@[simp] theorem State.giveBack_engine (pages : List Page) (s : State) : (s.giveBack pages).engine = s.engine := rfl
@[simp] theorem State.giveBack_runNumber (pages : List Page) (s : State) : (s.giveBack pages).runNumber = s.runNumber :=
  rfl
@[simp] theorem State.giveBack_setup (pages : List Page) (s : State) : (s.giveBack pages).setup = s.setup := rfl
@[simp] theorem State.giveBack_image (pages : List Page) (s : State) : (s.giveBack pages).image = s.image := rfl
@[simp] theorem State.giveBack_startup (pages : List Page) (s : State) : (s.giveBack pages).startup = s.startup := rfl
@[simp] theorem State.giveBack_iface (pages : List Page) (s : State) : (s.giveBack pages).iface = s.iface := rfl
@[simp] theorem State.giveBack_lanes (pages : List Page) (s : State) : (s.giveBack pages).lanes = s.lanes := rfl
@[simp] theorem State.giveBack_lastTaken (pages : List Page) (s : State) : (s.giveBack pages).lastTaken = s.lastTaken :=
  rfl
@[simp] theorem State.giveBack_measures (pages : List Page) (s : State) : (s.giveBack pages).measures = s.measures :=
  rfl
@[simp] theorem State.giveBack_conditions (pages : List Page) (s : State) :
    (s.giveBack pages).conditions = s.conditions :=
  rfl
@[simp] theorem State.giveBack_timers (pages : List Page) (s : State) : (s.giveBack pages).timers = s.timers := rfl
@[simp] theorem State.giveBack_events (pages : List Page) (s : State) : (s.giveBack pages).events = s.events := rfl
@[simp] theorem State.giveBack_actionLevels (pages : List Page) (s : State) :
    (s.giveBack pages).actionLevels = s.actionLevels :=
  rfl
@[simp] theorem State.giveBack_workPins (pages : List Page) (s : State) : (s.giveBack pages).workPins = s.workPins :=
  rfl
@[simp] theorem State.giveBack_inputs (pages : List Page) (s : State) : (s.giveBack pages).inputs = s.inputs := rfl
@[simp] theorem State.giveBack_units (pages : List Page) (s : State) : (s.giveBack pages).units = s.units := rfl
@[simp] theorem State.giveBack_link (pages : List Page) (s : State) : (s.giveBack pages).link = s.link := rfl
@[simp] theorem State.giveBack_pending (pages : List Page) (s : State) : (s.giveBack pages).pending = s.pending := rfl

/-! ### markLow -/

@[simp] theorem State.markLow_engine (s : State) : (s.markLow).engine = s.engine := rfl
@[simp] theorem State.markLow_runNumber (s : State) : (s.markLow).runNumber = s.runNumber := rfl
@[simp] theorem State.markLow_setup (s : State) : (s.markLow).setup = s.setup := rfl
@[simp] theorem State.markLow_image (s : State) : (s.markLow).image = s.image := rfl
@[simp] theorem State.markLow_startup (s : State) : (s.markLow).startup = s.startup := rfl
@[simp] theorem State.markLow_iface (s : State) : (s.markLow).iface = s.iface := rfl
@[simp] theorem State.markLow_lanes (s : State) : (s.markLow).lanes = s.lanes := rfl
@[simp] theorem State.markLow_lastTaken (s : State) : (s.markLow).lastTaken = s.lastTaken := rfl
@[simp] theorem State.markLow_measures (s : State) : (s.markLow).measures = s.measures := rfl
@[simp] theorem State.markLow_conditions (s : State) : (s.markLow).conditions = s.conditions := rfl
@[simp] theorem State.markLow_timers (s : State) : (s.markLow).timers = s.timers := rfl
@[simp] theorem State.markLow_events (s : State) : (s.markLow).events = s.events := rfl
@[simp] theorem State.markLow_actionLevels (s : State) : (s.markLow).actionLevels = s.actionLevels := rfl
@[simp] theorem State.markLow_workPins (s : State) : (s.markLow).workPins = s.workPins := rfl
@[simp] theorem State.markLow_inputs (s : State) : (s.markLow).inputs = s.inputs := rfl
@[simp] theorem State.markLow_units (s : State) : (s.markLow).units = s.units := rfl
@[simp] theorem State.markLow_link (s : State) : (s.markLow).link = s.link := rfl
@[simp] theorem State.markLow_pending (s : State) : (s.markLow).pending = s.pending := rfl

/-! ### appendRecord -/

@[simp] theorem State.appendRecord_engine (r : CaptureRecord) (s : State) : (s.appendRecord r).engine = s.engine :=
  rfl
@[simp] theorem State.appendRecord_runNumber (r : CaptureRecord) (s : State) :
    (s.appendRecord r).runNumber = s.runNumber :=
  rfl
@[simp] theorem State.appendRecord_setup (r : CaptureRecord) (s : State) : (s.appendRecord r).setup = s.setup := rfl
@[simp] theorem State.appendRecord_image (r : CaptureRecord) (s : State) : (s.appendRecord r).image = s.image := rfl
@[simp] theorem State.appendRecord_startup (r : CaptureRecord) (s : State) : (s.appendRecord r).startup = s.startup :=
  rfl
@[simp] theorem State.appendRecord_iface (r : CaptureRecord) (s : State) : (s.appendRecord r).iface = s.iface := rfl
@[simp] theorem State.appendRecord_lanes (r : CaptureRecord) (s : State) : (s.appendRecord r).lanes = s.lanes := rfl
@[simp] theorem State.appendRecord_lastTaken (r : CaptureRecord) (s : State) :
    (s.appendRecord r).lastTaken = s.lastTaken :=
  rfl
@[simp] theorem State.appendRecord_measures (r : CaptureRecord) (s : State) :
    (s.appendRecord r).measures = s.measures :=
  rfl
@[simp] theorem State.appendRecord_conditions (r : CaptureRecord) (s : State) :
    (s.appendRecord r).conditions = s.conditions :=
  rfl
@[simp] theorem State.appendRecord_timers (r : CaptureRecord) (s : State) : (s.appendRecord r).timers = s.timers :=
  rfl
@[simp] theorem State.appendRecord_events (r : CaptureRecord) (s : State) : (s.appendRecord r).events = s.events :=
  rfl
@[simp] theorem State.appendRecord_actionLevels (r : CaptureRecord) (s : State) :
    (s.appendRecord r).actionLevels = s.actionLevels :=
  rfl
@[simp] theorem State.appendRecord_workPins (r : CaptureRecord) (s : State) :
    (s.appendRecord r).workPins = s.workPins :=
  rfl
@[simp] theorem State.appendRecord_inputs (r : CaptureRecord) (s : State) : (s.appendRecord r).inputs = s.inputs :=
  rfl
@[simp] theorem State.appendRecord_units (r : CaptureRecord) (s : State) : (s.appendRecord r).units = s.units := rfl
@[simp] theorem State.appendRecord_link (r : CaptureRecord) (s : State) : (s.appendRecord r).link = s.link := rfl
@[simp] theorem State.appendRecord_pending (r : CaptureRecord) (s : State) : (s.appendRecord r).pending = s.pending :=
  rfl

/-! ### removeRecord -/

@[simp] theorem State.removeRecord_engine (r : CaptureRecord) (s : State) : (s.removeRecord r).engine = s.engine :=
  rfl
@[simp] theorem State.removeRecord_runNumber (r : CaptureRecord) (s : State) :
    (s.removeRecord r).runNumber = s.runNumber :=
  rfl
@[simp] theorem State.removeRecord_setup (r : CaptureRecord) (s : State) : (s.removeRecord r).setup = s.setup := rfl
@[simp] theorem State.removeRecord_image (r : CaptureRecord) (s : State) : (s.removeRecord r).image = s.image := rfl
@[simp] theorem State.removeRecord_startup (r : CaptureRecord) (s : State) : (s.removeRecord r).startup = s.startup :=
  rfl
@[simp] theorem State.removeRecord_iface (r : CaptureRecord) (s : State) : (s.removeRecord r).iface = s.iface := rfl
@[simp] theorem State.removeRecord_lanes (r : CaptureRecord) (s : State) : (s.removeRecord r).lanes = s.lanes := rfl
@[simp] theorem State.removeRecord_lastTaken (r : CaptureRecord) (s : State) :
    (s.removeRecord r).lastTaken = s.lastTaken :=
  rfl
@[simp] theorem State.removeRecord_measures (r : CaptureRecord) (s : State) :
    (s.removeRecord r).measures = s.measures :=
  rfl
@[simp] theorem State.removeRecord_conditions (r : CaptureRecord) (s : State) :
    (s.removeRecord r).conditions = s.conditions :=
  rfl
@[simp] theorem State.removeRecord_timers (r : CaptureRecord) (s : State) : (s.removeRecord r).timers = s.timers :=
  rfl
@[simp] theorem State.removeRecord_events (r : CaptureRecord) (s : State) : (s.removeRecord r).events = s.events :=
  rfl
@[simp] theorem State.removeRecord_actionLevels (r : CaptureRecord) (s : State) :
    (s.removeRecord r).actionLevels = s.actionLevels :=
  rfl
@[simp] theorem State.removeRecord_workPins (r : CaptureRecord) (s : State) :
    (s.removeRecord r).workPins = s.workPins :=
  rfl
@[simp] theorem State.removeRecord_inputs (r : CaptureRecord) (s : State) : (s.removeRecord r).inputs = s.inputs :=
  rfl
@[simp] theorem State.removeRecord_units (r : CaptureRecord) (s : State) : (s.removeRecord r).units = s.units := rfl
@[simp] theorem State.removeRecord_link (r : CaptureRecord) (s : State) : (s.removeRecord r).link = s.link := rfl
@[simp] theorem State.removeRecord_pending (r : CaptureRecord) (s : State) : (s.removeRecord r).pending = s.pending :=
  rfl

/-! ### dropCapture -/

@[simp] theorem State.dropCapture_engine (r : CaptureRecord) (s : State) : (s.dropCapture r).engine = s.engine := rfl
@[simp] theorem State.dropCapture_runNumber (r : CaptureRecord) (s : State) :
    (s.dropCapture r).runNumber = s.runNumber :=
  rfl
@[simp] theorem State.dropCapture_setup (r : CaptureRecord) (s : State) : (s.dropCapture r).setup = s.setup := rfl
@[simp] theorem State.dropCapture_image (r : CaptureRecord) (s : State) : (s.dropCapture r).image = s.image := rfl
@[simp] theorem State.dropCapture_startup (r : CaptureRecord) (s : State) : (s.dropCapture r).startup = s.startup :=
  rfl
@[simp] theorem State.dropCapture_iface (r : CaptureRecord) (s : State) : (s.dropCapture r).iface = s.iface := rfl
@[simp] theorem State.dropCapture_lanes (r : CaptureRecord) (s : State) : (s.dropCapture r).lanes = s.lanes := rfl
@[simp] theorem State.dropCapture_lastTaken (r : CaptureRecord) (s : State) :
    (s.dropCapture r).lastTaken = s.lastTaken :=
  rfl
@[simp] theorem State.dropCapture_measures (r : CaptureRecord) (s : State) : (s.dropCapture r).measures = s.measures :=
  rfl
@[simp] theorem State.dropCapture_conditions (r : CaptureRecord) (s : State) :
    (s.dropCapture r).conditions = s.conditions :=
  rfl
@[simp] theorem State.dropCapture_timers (r : CaptureRecord) (s : State) : (s.dropCapture r).timers = s.timers := rfl
@[simp] theorem State.dropCapture_events (r : CaptureRecord) (s : State) : (s.dropCapture r).events = s.events := rfl
@[simp] theorem State.dropCapture_actionLevels (r : CaptureRecord) (s : State) :
    (s.dropCapture r).actionLevels = s.actionLevels :=
  rfl
@[simp] theorem State.dropCapture_workPins (r : CaptureRecord) (s : State) : (s.dropCapture r).workPins = s.workPins :=
  rfl
@[simp] theorem State.dropCapture_inputs (r : CaptureRecord) (s : State) : (s.dropCapture r).inputs = s.inputs := rfl
@[simp] theorem State.dropCapture_units (r : CaptureRecord) (s : State) : (s.dropCapture r).units = s.units := rfl
@[simp] theorem State.dropCapture_pending (r : CaptureRecord) (s : State) : (s.dropCapture r).pending = s.pending :=
  rfl

/-! ### onTimer -/

@[simp] theorem State.onTimer_engine (op : TimerSetup → TimerState → TimerState) (t : Fin 4) (s : State) :
    (s.onTimer op t).engine = s.engine :=
  rfl
@[simp] theorem State.onTimer_runNumber (op : TimerSetup → TimerState → TimerState) (t : Fin 4) (s : State) :
    (s.onTimer op t).runNumber = s.runNumber :=
  rfl
@[simp] theorem State.onTimer_setup (op : TimerSetup → TimerState → TimerState) (t : Fin 4) (s : State) :
    (s.onTimer op t).setup = s.setup :=
  rfl
@[simp] theorem State.onTimer_image (op : TimerSetup → TimerState → TimerState) (t : Fin 4) (s : State) :
    (s.onTimer op t).image = s.image :=
  rfl
@[simp] theorem State.onTimer_startup (op : TimerSetup → TimerState → TimerState) (t : Fin 4) (s : State) :
    (s.onTimer op t).startup = s.startup :=
  rfl
@[simp] theorem State.onTimer_iface (op : TimerSetup → TimerState → TimerState) (t : Fin 4) (s : State) :
    (s.onTimer op t).iface = s.iface :=
  rfl
@[simp] theorem State.onTimer_lanes (op : TimerSetup → TimerState → TimerState) (t : Fin 4) (s : State) :
    (s.onTimer op t).lanes = s.lanes :=
  rfl
@[simp] theorem State.onTimer_lastTaken (op : TimerSetup → TimerState → TimerState) (t : Fin 4) (s : State) :
    (s.onTimer op t).lastTaken = s.lastTaken :=
  rfl
@[simp] theorem State.onTimer_measures (op : TimerSetup → TimerState → TimerState) (t : Fin 4) (s : State) :
    (s.onTimer op t).measures = s.measures :=
  rfl
@[simp] theorem State.onTimer_conditions (op : TimerSetup → TimerState → TimerState) (t : Fin 4) (s : State) :
    (s.onTimer op t).conditions = s.conditions :=
  rfl
@[simp] theorem State.onTimer_events (op : TimerSetup → TimerState → TimerState) (t : Fin 4) (s : State) :
    (s.onTimer op t).events = s.events :=
  rfl
@[simp] theorem State.onTimer_actionLevels (op : TimerSetup → TimerState → TimerState) (t : Fin 4) (s : State) :
    (s.onTimer op t).actionLevels = s.actionLevels :=
  rfl
@[simp] theorem State.onTimer_workPins (op : TimerSetup → TimerState → TimerState) (t : Fin 4) (s : State) :
    (s.onTimer op t).workPins = s.workPins :=
  rfl
@[simp] theorem State.onTimer_inputs (op : TimerSetup → TimerState → TimerState) (t : Fin 4) (s : State) :
    (s.onTimer op t).inputs = s.inputs :=
  rfl
@[simp] theorem State.onTimer_units (op : TimerSetup → TimerState → TimerState) (t : Fin 4) (s : State) :
    (s.onTimer op t).units = s.units :=
  rfl
@[simp] theorem State.onTimer_store (op : TimerSetup → TimerState → TimerState) (t : Fin 4) (s : State) :
    (s.onTimer op t).store = s.store :=
  rfl
@[simp] theorem State.onTimer_link (op : TimerSetup → TimerState → TimerState) (t : Fin 4) (s : State) :
    (s.onTimer op t).link = s.link :=
  rfl
@[simp] theorem State.onTimer_pending (op : TimerSetup → TimerState → TimerState) (t : Fin 4) (s : State) :
    (s.onTimer op t).pending = s.pending :=
  rfl

/-! ### onLine -/

@[simp] theorem State.onLine_engine (op : LineOp) (o : Fin 4) (s : State) : (s.onLine op o).engine = s.engine := rfl
@[simp] theorem State.onLine_runNumber (op : LineOp) (o : Fin 4) (s : State) :
    (s.onLine op o).runNumber = s.runNumber :=
  rfl
@[simp] theorem State.onLine_setup (op : LineOp) (o : Fin 4) (s : State) : (s.onLine op o).setup = s.setup := rfl
@[simp] theorem State.onLine_image (op : LineOp) (o : Fin 4) (s : State) : (s.onLine op o).image = s.image := rfl
@[simp] theorem State.onLine_startup (op : LineOp) (o : Fin 4) (s : State) : (s.onLine op o).startup = s.startup :=
  rfl
@[simp] theorem State.onLine_iface (op : LineOp) (o : Fin 4) (s : State) : (s.onLine op o).iface = s.iface := rfl
@[simp] theorem State.onLine_lanes (op : LineOp) (o : Fin 4) (s : State) : (s.onLine op o).lanes = s.lanes := rfl
@[simp] theorem State.onLine_lastTaken (op : LineOp) (o : Fin 4) (s : State) :
    (s.onLine op o).lastTaken = s.lastTaken :=
  rfl
@[simp] theorem State.onLine_measures (op : LineOp) (o : Fin 4) (s : State) : (s.onLine op o).measures = s.measures :=
  rfl
@[simp] theorem State.onLine_conditions (op : LineOp) (o : Fin 4) (s : State) :
    (s.onLine op o).conditions = s.conditions :=
  rfl
@[simp] theorem State.onLine_timers (op : LineOp) (o : Fin 4) (s : State) : (s.onLine op o).timers = s.timers := rfl
@[simp] theorem State.onLine_events (op : LineOp) (o : Fin 4) (s : State) : (s.onLine op o).events = s.events := rfl
@[simp] theorem State.onLine_workPins (op : LineOp) (o : Fin 4) (s : State) : (s.onLine op o).workPins = s.workPins :=
  rfl
@[simp] theorem State.onLine_inputs (op : LineOp) (o : Fin 4) (s : State) : (s.onLine op o).inputs = s.inputs := rfl
@[simp] theorem State.onLine_units (op : LineOp) (o : Fin 4) (s : State) : (s.onLine op o).units = s.units := rfl
@[simp] theorem State.onLine_store (op : LineOp) (o : Fin 4) (s : State) : (s.onLine op o).store = s.store := rfl
@[simp] theorem State.onLine_link (op : LineOp) (o : Fin 4) (s : State) : (s.onLine op o).link = s.link := rfl
@[simp] theorem State.onLine_pending (op : LineOp) (o : Fin 4) (s : State) : (s.onLine op o).pending = s.pending :=
  rfl

/-! ### onCondition -/

@[simp] theorem State.onCondition_engine (op : ConditionSetup → ConditionState → ConditionState) (c : Fin 32) (s : State) :
    (s.onCondition op c).engine = s.engine :=
  by unfold State.onCondition; dsimp only; split <;> simp
@[simp] theorem State.onCondition_runNumber (op : ConditionSetup → ConditionState → ConditionState) (c : Fin 32) (s : State) :
    (s.onCondition op c).runNumber = s.runNumber :=
  by unfold State.onCondition; dsimp only; split <;> simp
@[simp] theorem State.onCondition_setup (op : ConditionSetup → ConditionState → ConditionState) (c : Fin 32) (s : State) :
    (s.onCondition op c).setup = s.setup :=
  by unfold State.onCondition; dsimp only; split <;> simp
@[simp] theorem State.onCondition_image (op : ConditionSetup → ConditionState → ConditionState) (c : Fin 32) (s : State) :
    (s.onCondition op c).image = s.image :=
  by unfold State.onCondition; dsimp only; split <;> simp
@[simp] theorem State.onCondition_startup (op : ConditionSetup → ConditionState → ConditionState) (c : Fin 32) (s : State) :
    (s.onCondition op c).startup = s.startup :=
  by unfold State.onCondition; dsimp only; split <;> simp
@[simp] theorem State.onCondition_iface (op : ConditionSetup → ConditionState → ConditionState) (c : Fin 32) (s : State) :
    (s.onCondition op c).iface = s.iface :=
  by unfold State.onCondition; dsimp only; split <;> simp
@[simp] theorem State.onCondition_lanes (op : ConditionSetup → ConditionState → ConditionState) (c : Fin 32) (s : State) :
    (s.onCondition op c).lanes = s.lanes :=
  by unfold State.onCondition; dsimp only; split <;> simp
@[simp] theorem State.onCondition_lastTaken (op : ConditionSetup → ConditionState → ConditionState) (c : Fin 32) (s : State) :
    (s.onCondition op c).lastTaken = s.lastTaken :=
  by unfold State.onCondition; dsimp only; split <;> simp
@[simp] theorem State.onCondition_measures (op : ConditionSetup → ConditionState → ConditionState) (c : Fin 32) (s : State) :
    (s.onCondition op c).measures = s.measures :=
  by unfold State.onCondition; dsimp only; split <;> simp
@[simp] theorem State.onCondition_timers (op : ConditionSetup → ConditionState → ConditionState) (c : Fin 32) (s : State) :
    (s.onCondition op c).timers = s.timers :=
  by unfold State.onCondition; dsimp only; split <;> simp
@[simp] theorem State.onCondition_actionLevels (op : ConditionSetup → ConditionState → ConditionState) (c : Fin 32) (s : State) :
    (s.onCondition op c).actionLevels = s.actionLevels :=
  by unfold State.onCondition; dsimp only; split <;> simp
@[simp] theorem State.onCondition_workPins (op : ConditionSetup → ConditionState → ConditionState) (c : Fin 32) (s : State) :
    (s.onCondition op c).workPins = s.workPins :=
  by unfold State.onCondition; dsimp only; split <;> simp
@[simp] theorem State.onCondition_inputs (op : ConditionSetup → ConditionState → ConditionState) (c : Fin 32) (s : State) :
    (s.onCondition op c).inputs = s.inputs :=
  by unfold State.onCondition; dsimp only; split <;> simp
@[simp] theorem State.onCondition_units (op : ConditionSetup → ConditionState → ConditionState) (c : Fin 32) (s : State) :
    (s.onCondition op c).units = s.units :=
  by unfold State.onCondition; dsimp only; split <;> simp
@[simp] theorem State.onCondition_store (op : ConditionSetup → ConditionState → ConditionState) (c : Fin 32) (s : State) :
    (s.onCondition op c).store = s.store :=
  by unfold State.onCondition; dsimp only; split <;> simp
@[simp] theorem State.onCondition_link (op : ConditionSetup → ConditionState → ConditionState) (c : Fin 32) (s : State) :
    (s.onCondition op c).link = s.link :=
  by unfold State.onCondition; dsimp only; split <;> simp
@[simp] theorem State.onCondition_pending (op : ConditionSetup → ConditionState → ConditionState) (c : Fin 32) (s : State) :
    (s.onCondition op c).pending = s.pending :=
  by unfold State.onCondition; dsimp only; split <;> simp

/-! ### dispatcherTo -/

@[simp] theorem State.dispatcherTo_engine (d : Dispatcher) (s : State) : (s.dispatcherTo d).engine = s.engine := rfl
@[simp] theorem State.dispatcherTo_runNumber (d : Dispatcher) (s : State) :
    (s.dispatcherTo d).runNumber = s.runNumber :=
  rfl
@[simp] theorem State.dispatcherTo_setup (d : Dispatcher) (s : State) : (s.dispatcherTo d).setup = s.setup := rfl
@[simp] theorem State.dispatcherTo_image (d : Dispatcher) (s : State) : (s.dispatcherTo d).image = s.image := rfl
@[simp] theorem State.dispatcherTo_startup (d : Dispatcher) (s : State) : (s.dispatcherTo d).startup = s.startup :=
  rfl
@[simp] theorem State.dispatcherTo_iface (d : Dispatcher) (s : State) : (s.dispatcherTo d).iface = s.iface := rfl
@[simp] theorem State.dispatcherTo_lanes (d : Dispatcher) (s : State) : (s.dispatcherTo d).lanes = s.lanes := rfl
@[simp] theorem State.dispatcherTo_lastTaken (d : Dispatcher) (s : State) :
    (s.dispatcherTo d).lastTaken = s.lastTaken :=
  rfl
@[simp] theorem State.dispatcherTo_measures (d : Dispatcher) (s : State) : (s.dispatcherTo d).measures = s.measures :=
  rfl
@[simp] theorem State.dispatcherTo_conditions (d : Dispatcher) (s : State) :
    (s.dispatcherTo d).conditions = s.conditions :=
  rfl
@[simp] theorem State.dispatcherTo_timers (d : Dispatcher) (s : State) : (s.dispatcherTo d).timers = s.timers := rfl
@[simp] theorem State.dispatcherTo_events (d : Dispatcher) (s : State) : (s.dispatcherTo d).events = s.events := rfl
@[simp] theorem State.dispatcherTo_actionLevels (d : Dispatcher) (s : State) :
    (s.dispatcherTo d).actionLevels = s.actionLevels :=
  rfl
@[simp] theorem State.dispatcherTo_workPins (d : Dispatcher) (s : State) : (s.dispatcherTo d).workPins = s.workPins :=
  rfl
@[simp] theorem State.dispatcherTo_inputs (d : Dispatcher) (s : State) : (s.dispatcherTo d).inputs = s.inputs := rfl
@[simp] theorem State.dispatcherTo_units (d : Dispatcher) (s : State) : (s.dispatcherTo d).units = s.units := rfl
@[simp] theorem State.dispatcherTo_store (d : Dispatcher) (s : State) : (s.dispatcherTo d).store = s.store := rfl
@[simp] theorem State.dispatcherTo_pending (d : Dispatcher) (s : State) : (s.dispatcherTo d).pending = s.pending :=
  rfl

/-! ### updateMeasures -/

@[simp] theorem State.updateMeasures_engine (s : State) : (s.updateMeasures).engine = s.engine :=
  by unfold State.updateMeasures; rfl
@[simp] theorem State.updateMeasures_runNumber (s : State) : (s.updateMeasures).runNumber = s.runNumber :=
  by unfold State.updateMeasures; rfl
@[simp] theorem State.updateMeasures_setup (s : State) : (s.updateMeasures).setup = s.setup :=
  by unfold State.updateMeasures; rfl
@[simp] theorem State.updateMeasures_image (s : State) : (s.updateMeasures).image = s.image :=
  by unfold State.updateMeasures; rfl
@[simp] theorem State.updateMeasures_startup (s : State) : (s.updateMeasures).startup = s.startup :=
  by unfold State.updateMeasures; rfl
@[simp] theorem State.updateMeasures_iface (s : State) : (s.updateMeasures).iface = s.iface :=
  by unfold State.updateMeasures; rfl
@[simp] theorem State.updateMeasures_lanes (s : State) : (s.updateMeasures).lanes = s.lanes :=
  by unfold State.updateMeasures; rfl
@[simp] theorem State.updateMeasures_lastTaken (s : State) : (s.updateMeasures).lastTaken = s.lastTaken :=
  by unfold State.updateMeasures; rfl
@[simp] theorem State.updateMeasures_conditions (s : State) : (s.updateMeasures).conditions = s.conditions :=
  by unfold State.updateMeasures; rfl
@[simp] theorem State.updateMeasures_timers (s : State) : (s.updateMeasures).timers = s.timers :=
  by unfold State.updateMeasures; rfl
@[simp] theorem State.updateMeasures_events (s : State) : (s.updateMeasures).events = s.events :=
  by unfold State.updateMeasures; rfl
@[simp] theorem State.updateMeasures_actionLevels (s : State) : (s.updateMeasures).actionLevels = s.actionLevels :=
  by unfold State.updateMeasures; rfl
@[simp] theorem State.updateMeasures_workPins (s : State) : (s.updateMeasures).workPins = s.workPins :=
  by unfold State.updateMeasures; rfl
@[simp] theorem State.updateMeasures_inputs (s : State) : (s.updateMeasures).inputs = s.inputs :=
  by unfold State.updateMeasures; rfl
@[simp] theorem State.updateMeasures_units (s : State) : (s.updateMeasures).units = s.units :=
  by unfold State.updateMeasures; rfl
@[simp] theorem State.updateMeasures_store (s : State) : (s.updateMeasures).store = s.store :=
  by unfold State.updateMeasures; rfl
@[simp] theorem State.updateMeasures_link (s : State) : (s.updateMeasures).link = s.link :=
  by unfold State.updateMeasures; rfl
@[simp] theorem State.updateMeasures_pending (s : State) : (s.updateMeasures).pending = s.pending :=
  by unfold State.updateMeasures; rfl

/-! ### evaluate -/

@[simp] theorem State.evaluate_engine (s : State) : (s.evaluate).engine = s.engine := by unfold State.evaluate; rfl
@[simp] theorem State.evaluate_runNumber (s : State) : (s.evaluate).runNumber = s.runNumber :=
  by unfold State.evaluate; rfl
@[simp] theorem State.evaluate_setup (s : State) : (s.evaluate).setup = s.setup := by unfold State.evaluate; rfl
@[simp] theorem State.evaluate_image (s : State) : (s.evaluate).image = s.image := by unfold State.evaluate; rfl
@[simp] theorem State.evaluate_startup (s : State) : (s.evaluate).startup = s.startup := by unfold State.evaluate; rfl
@[simp] theorem State.evaluate_iface (s : State) : (s.evaluate).iface = s.iface := by unfold State.evaluate; rfl
@[simp] theorem State.evaluate_lanes (s : State) : (s.evaluate).lanes = s.lanes := by unfold State.evaluate; rfl
@[simp] theorem State.evaluate_lastTaken (s : State) : (s.evaluate).lastTaken = s.lastTaken :=
  by unfold State.evaluate; rfl
@[simp] theorem State.evaluate_measures (s : State) : (s.evaluate).measures = s.measures :=
  by unfold State.evaluate; rfl
@[simp] theorem State.evaluate_timers (s : State) : (s.evaluate).timers = s.timers := by unfold State.evaluate; rfl
@[simp] theorem State.evaluate_events (s : State) : (s.evaluate).events = s.events := by unfold State.evaluate; rfl
@[simp] theorem State.evaluate_actionLevels (s : State) : (s.evaluate).actionLevels = s.actionLevels :=
  by unfold State.evaluate; rfl
@[simp] theorem State.evaluate_inputs (s : State) : (s.evaluate).inputs = s.inputs := by unfold State.evaluate; rfl
@[simp] theorem State.evaluate_units (s : State) : (s.evaluate).units = s.units := by unfold State.evaluate; rfl
@[simp] theorem State.evaluate_store (s : State) : (s.evaluate).store = s.store := by unfold State.evaluate; rfl
@[simp] theorem State.evaluate_link (s : State) : (s.evaluate).link = s.link := by unfold State.evaluate; rfl
@[simp] theorem State.evaluate_pending (s : State) : (s.evaluate).pending = s.pending := by unfold State.evaluate; rfl

/-! ### startFrame -/

@[simp] theorem State.startFrame_engine (s : State) : (s.startFrame).engine = s.engine := rfl
@[simp] theorem State.startFrame_runNumber (s : State) : (s.startFrame).runNumber = s.runNumber := rfl
@[simp] theorem State.startFrame_setup (s : State) : (s.startFrame).setup = s.setup := rfl
@[simp] theorem State.startFrame_image (s : State) : (s.startFrame).image = s.image := rfl
@[simp] theorem State.startFrame_startup (s : State) : (s.startFrame).startup = s.startup := rfl
@[simp] theorem State.startFrame_lanes (s : State) : (s.startFrame).lanes = s.lanes := rfl
@[simp] theorem State.startFrame_lastTaken (s : State) : (s.startFrame).lastTaken = s.lastTaken := rfl
@[simp] theorem State.startFrame_measures (s : State) : (s.startFrame).measures = s.measures := rfl
@[simp] theorem State.startFrame_conditions (s : State) : (s.startFrame).conditions = s.conditions := rfl
@[simp] theorem State.startFrame_timers (s : State) : (s.startFrame).timers = s.timers := rfl
@[simp] theorem State.startFrame_events (s : State) : (s.startFrame).events = s.events := rfl
@[simp] theorem State.startFrame_actionLevels (s : State) : (s.startFrame).actionLevels = s.actionLevels := rfl
@[simp] theorem State.startFrame_workPins (s : State) : (s.startFrame).workPins = s.workPins := rfl
@[simp] theorem State.startFrame_inputs (s : State) : (s.startFrame).inputs = s.inputs := rfl
@[simp] theorem State.startFrame_units (s : State) : (s.startFrame).units = s.units := rfl
@[simp] theorem State.startFrame_store (s : State) : (s.startFrame).store = s.store := rfl
@[simp] theorem State.startFrame_link (s : State) : (s.startFrame).link = s.link := rfl
@[simp] theorem State.startFrame_pending (s : State) : (s.startFrame).pending = s.pending := rfl

/-! ### noteFsy -/

@[simp] theorem State.noteFsy_engine (fsy : Bool) (s : State) : (s.noteFsy fsy).engine = s.engine := rfl
@[simp] theorem State.noteFsy_runNumber (fsy : Bool) (s : State) : (s.noteFsy fsy).runNumber = s.runNumber := rfl
@[simp] theorem State.noteFsy_setup (fsy : Bool) (s : State) : (s.noteFsy fsy).setup = s.setup := rfl
@[simp] theorem State.noteFsy_image (fsy : Bool) (s : State) : (s.noteFsy fsy).image = s.image := rfl
@[simp] theorem State.noteFsy_startup (fsy : Bool) (s : State) : (s.noteFsy fsy).startup = s.startup := rfl
@[simp] theorem State.noteFsy_lanes (fsy : Bool) (s : State) : (s.noteFsy fsy).lanes = s.lanes := rfl
@[simp] theorem State.noteFsy_lastTaken (fsy : Bool) (s : State) : (s.noteFsy fsy).lastTaken = s.lastTaken := rfl
@[simp] theorem State.noteFsy_measures (fsy : Bool) (s : State) : (s.noteFsy fsy).measures = s.measures := rfl
@[simp] theorem State.noteFsy_conditions (fsy : Bool) (s : State) : (s.noteFsy fsy).conditions = s.conditions := rfl
@[simp] theorem State.noteFsy_timers (fsy : Bool) (s : State) : (s.noteFsy fsy).timers = s.timers := rfl
@[simp] theorem State.noteFsy_events (fsy : Bool) (s : State) : (s.noteFsy fsy).events = s.events := rfl
@[simp] theorem State.noteFsy_actionLevels (fsy : Bool) (s : State) : (s.noteFsy fsy).actionLevels = s.actionLevels :=
  rfl
@[simp] theorem State.noteFsy_workPins (fsy : Bool) (s : State) : (s.noteFsy fsy).workPins = s.workPins := rfl
@[simp] theorem State.noteFsy_inputs (fsy : Bool) (s : State) : (s.noteFsy fsy).inputs = s.inputs := rfl
@[simp] theorem State.noteFsy_units (fsy : Bool) (s : State) : (s.noteFsy fsy).units = s.units := rfl
@[simp] theorem State.noteFsy_store (fsy : Bool) (s : State) : (s.noteFsy fsy).store = s.store := rfl
@[simp] theorem State.noteFsy_link (fsy : Bool) (s : State) : (s.noteFsy fsy).link = s.link := rfl
@[simp] theorem State.noteFsy_pending (fsy : Bool) (s : State) : (s.noteFsy fsy).pending = s.pending := rfl

/-! ### noteSck -/

@[simp] theorem State.noteSck_engine (e : SckEdge) (s : State) : (s.noteSck e).engine = s.engine := rfl
@[simp] theorem State.noteSck_runNumber (e : SckEdge) (s : State) : (s.noteSck e).runNumber = s.runNumber := rfl
@[simp] theorem State.noteSck_setup (e : SckEdge) (s : State) : (s.noteSck e).setup = s.setup := rfl
@[simp] theorem State.noteSck_image (e : SckEdge) (s : State) : (s.noteSck e).image = s.image := rfl
@[simp] theorem State.noteSck_startup (e : SckEdge) (s : State) : (s.noteSck e).startup = s.startup := rfl
@[simp] theorem State.noteSck_lanes (e : SckEdge) (s : State) : (s.noteSck e).lanes = s.lanes := rfl
@[simp] theorem State.noteSck_lastTaken (e : SckEdge) (s : State) : (s.noteSck e).lastTaken = s.lastTaken := rfl
@[simp] theorem State.noteSck_measures (e : SckEdge) (s : State) : (s.noteSck e).measures = s.measures := rfl
@[simp] theorem State.noteSck_conditions (e : SckEdge) (s : State) : (s.noteSck e).conditions = s.conditions := rfl
@[simp] theorem State.noteSck_timers (e : SckEdge) (s : State) : (s.noteSck e).timers = s.timers := rfl
@[simp] theorem State.noteSck_events (e : SckEdge) (s : State) : (s.noteSck e).events = s.events := rfl
@[simp] theorem State.noteSck_actionLevels (e : SckEdge) (s : State) : (s.noteSck e).actionLevels = s.actionLevels :=
  rfl
@[simp] theorem State.noteSck_workPins (e : SckEdge) (s : State) : (s.noteSck e).workPins = s.workPins := rfl
@[simp] theorem State.noteSck_inputs (e : SckEdge) (s : State) : (s.noteSck e).inputs = s.inputs := rfl
@[simp] theorem State.noteSck_units (e : SckEdge) (s : State) : (s.noteSck e).units = s.units := rfl
@[simp] theorem State.noteSck_store (e : SckEdge) (s : State) : (s.noteSck e).store = s.store := rfl
@[simp] theorem State.noteSck_link (e : SckEdge) (s : State) : (s.noteSck e).link = s.link := rfl
@[simp] theorem State.noteSck_pending (e : SckEdge) (s : State) : (s.noteSck e).pending = s.pending := rfl

/-! ### noticeSent -/

@[simp] theorem State.noticeSent_engine (s : State) : (s.noticeSent).engine = s.engine := rfl
@[simp] theorem State.noticeSent_runNumber (s : State) : (s.noticeSent).runNumber = s.runNumber := rfl
@[simp] theorem State.noticeSent_setup (s : State) : (s.noticeSent).setup = s.setup := rfl
@[simp] theorem State.noticeSent_image (s : State) : (s.noticeSent).image = s.image := rfl
@[simp] theorem State.noticeSent_startup (s : State) : (s.noticeSent).startup = s.startup := rfl
@[simp] theorem State.noticeSent_iface (s : State) : (s.noticeSent).iface = s.iface := rfl
@[simp] theorem State.noticeSent_lanes (s : State) : (s.noticeSent).lanes = s.lanes := rfl
@[simp] theorem State.noticeSent_lastTaken (s : State) : (s.noticeSent).lastTaken = s.lastTaken := rfl
@[simp] theorem State.noticeSent_measures (s : State) : (s.noticeSent).measures = s.measures := rfl
@[simp] theorem State.noticeSent_conditions (s : State) : (s.noticeSent).conditions = s.conditions := rfl
@[simp] theorem State.noticeSent_timers (s : State) : (s.noticeSent).timers = s.timers := rfl
@[simp] theorem State.noticeSent_events (s : State) : (s.noticeSent).events = s.events := rfl
@[simp] theorem State.noticeSent_actionLevels (s : State) : (s.noticeSent).actionLevels = s.actionLevels := rfl
@[simp] theorem State.noticeSent_workPins (s : State) : (s.noticeSent).workPins = s.workPins := rfl
@[simp] theorem State.noticeSent_inputs (s : State) : (s.noticeSent).inputs = s.inputs := rfl
@[simp] theorem State.noticeSent_units (s : State) : (s.noticeSent).units = s.units := rfl
@[simp] theorem State.noticeSent_store (s : State) : (s.noticeSent).store = s.store := rfl
@[simp] theorem State.noticeSent_pending (s : State) : (s.noticeSent).pending = s.pending := rfl

/-! ### offerEvent -/

@[simp] theorem State.offerEvent_engine (frame : FrameNumber) (word : BitVec 32) (s : State) (b : Fin 48) :
    (s.offerEvent frame word b).engine = s.engine :=
  rfl
@[simp] theorem State.offerEvent_runNumber (frame : FrameNumber) (word : BitVec 32) (s : State) (b : Fin 48) :
    (s.offerEvent frame word b).runNumber = s.runNumber :=
  rfl
@[simp] theorem State.offerEvent_setup (frame : FrameNumber) (word : BitVec 32) (s : State) (b : Fin 48) :
    (s.offerEvent frame word b).setup = s.setup :=
  rfl
@[simp] theorem State.offerEvent_image (frame : FrameNumber) (word : BitVec 32) (s : State) (b : Fin 48) :
    (s.offerEvent frame word b).image = s.image :=
  rfl
@[simp] theorem State.offerEvent_startup (frame : FrameNumber) (word : BitVec 32) (s : State) (b : Fin 48) :
    (s.offerEvent frame word b).startup = s.startup :=
  rfl
@[simp] theorem State.offerEvent_iface (frame : FrameNumber) (word : BitVec 32) (s : State) (b : Fin 48) :
    (s.offerEvent frame word b).iface = s.iface :=
  rfl
@[simp] theorem State.offerEvent_lanes (frame : FrameNumber) (word : BitVec 32) (s : State) (b : Fin 48) :
    (s.offerEvent frame word b).lanes = s.lanes :=
  rfl
@[simp] theorem State.offerEvent_lastTaken (frame : FrameNumber) (word : BitVec 32) (s : State) (b : Fin 48) :
    (s.offerEvent frame word b).lastTaken = s.lastTaken :=
  rfl
@[simp] theorem State.offerEvent_measures (frame : FrameNumber) (word : BitVec 32) (s : State) (b : Fin 48) :
    (s.offerEvent frame word b).measures = s.measures :=
  rfl
@[simp] theorem State.offerEvent_conditions (frame : FrameNumber) (word : BitVec 32) (s : State) (b : Fin 48) :
    (s.offerEvent frame word b).conditions = s.conditions :=
  rfl
@[simp] theorem State.offerEvent_timers (frame : FrameNumber) (word : BitVec 32) (s : State) (b : Fin 48) :
    (s.offerEvent frame word b).timers = s.timers :=
  rfl
@[simp] theorem State.offerEvent_events (frame : FrameNumber) (word : BitVec 32) (s : State) (b : Fin 48) :
    (s.offerEvent frame word b).events = s.events :=
  rfl
@[simp] theorem State.offerEvent_actionLevels (frame : FrameNumber) (word : BitVec 32) (s : State) (b : Fin 48) :
    (s.offerEvent frame word b).actionLevels = s.actionLevels :=
  rfl
@[simp] theorem State.offerEvent_workPins (frame : FrameNumber) (word : BitVec 32) (s : State) (b : Fin 48) :
    (s.offerEvent frame word b).workPins = s.workPins :=
  rfl
@[simp] theorem State.offerEvent_inputs (frame : FrameNumber) (word : BitVec 32) (s : State) (b : Fin 48) :
    (s.offerEvent frame word b).inputs = s.inputs :=
  rfl
@[simp] theorem State.offerEvent_units (frame : FrameNumber) (word : BitVec 32) (s : State) (b : Fin 48) :
    (s.offerEvent frame word b).units = s.units :=
  rfl
@[simp] theorem State.offerEvent_store (frame : FrameNumber) (word : BitVec 32) (s : State) (b : Fin 48) :
    (s.offerEvent frame word b).store = s.store :=
  rfl
@[simp] theorem State.offerEvent_pending (frame : FrameNumber) (word : BitVec 32) (s : State) (b : Fin 48) :
    (s.offerEvent frame word b).pending = s.pending :=
  rfl

/-! ### streamFault -/

@[simp] theorem State.streamFault_engine (fault : StreamFault) (shortA shortB : Bool) (frame : FrameNumber) (s : State) :
    (s.streamFault fault shortA shortB frame).engine = s.engine :=
  rfl
@[simp] theorem State.streamFault_runNumber (fault : StreamFault) (shortA shortB : Bool) (frame : FrameNumber) (s : State) :
    (s.streamFault fault shortA shortB frame).runNumber = s.runNumber :=
  rfl
@[simp] theorem State.streamFault_setup (fault : StreamFault) (shortA shortB : Bool) (frame : FrameNumber) (s : State) :
    (s.streamFault fault shortA shortB frame).setup = s.setup :=
  rfl
@[simp] theorem State.streamFault_image (fault : StreamFault) (shortA shortB : Bool) (frame : FrameNumber) (s : State) :
    (s.streamFault fault shortA shortB frame).image = s.image :=
  rfl
@[simp] theorem State.streamFault_startup (fault : StreamFault) (shortA shortB : Bool) (frame : FrameNumber) (s : State) :
    (s.streamFault fault shortA shortB frame).startup = s.startup :=
  rfl
@[simp] theorem State.streamFault_iface (fault : StreamFault) (shortA shortB : Bool) (frame : FrameNumber) (s : State) :
    (s.streamFault fault shortA shortB frame).iface = s.iface :=
  rfl
@[simp] theorem State.streamFault_lanes (fault : StreamFault) (shortA shortB : Bool) (frame : FrameNumber) (s : State) :
    (s.streamFault fault shortA shortB frame).lanes = s.lanes :=
  rfl
@[simp] theorem State.streamFault_lastTaken (fault : StreamFault) (shortA shortB : Bool) (frame : FrameNumber) (s : State) :
    (s.streamFault fault shortA shortB frame).lastTaken = s.lastTaken :=
  rfl
@[simp] theorem State.streamFault_measures (fault : StreamFault) (shortA shortB : Bool) (frame : FrameNumber) (s : State) :
    (s.streamFault fault shortA shortB frame).measures = s.measures :=
  rfl
@[simp] theorem State.streamFault_conditions (fault : StreamFault) (shortA shortB : Bool) (frame : FrameNumber) (s : State) :
    (s.streamFault fault shortA shortB frame).conditions = s.conditions :=
  rfl
@[simp] theorem State.streamFault_timers (fault : StreamFault) (shortA shortB : Bool) (frame : FrameNumber) (s : State) :
    (s.streamFault fault shortA shortB frame).timers = s.timers :=
  rfl
@[simp] theorem State.streamFault_events (fault : StreamFault) (shortA shortB : Bool) (frame : FrameNumber) (s : State) :
    (s.streamFault fault shortA shortB frame).events = s.events :=
  rfl
@[simp] theorem State.streamFault_actionLevels (fault : StreamFault) (shortA shortB : Bool) (frame : FrameNumber) (s : State) :
    (s.streamFault fault shortA shortB frame).actionLevels = s.actionLevels :=
  rfl
@[simp] theorem State.streamFault_workPins (fault : StreamFault) (shortA shortB : Bool) (frame : FrameNumber) (s : State) :
    (s.streamFault fault shortA shortB frame).workPins = s.workPins :=
  rfl
@[simp] theorem State.streamFault_inputs (fault : StreamFault) (shortA shortB : Bool) (frame : FrameNumber) (s : State) :
    (s.streamFault fault shortA shortB frame).inputs = s.inputs :=
  rfl
@[simp] theorem State.streamFault_units (fault : StreamFault) (shortA shortB : Bool) (frame : FrameNumber) (s : State) :
    (s.streamFault fault shortA shortB frame).units = s.units :=
  rfl
@[simp] theorem State.streamFault_store (fault : StreamFault) (shortA shortB : Bool) (frame : FrameNumber) (s : State) :
    (s.streamFault fault shortA shortB frame).store = s.store :=
  rfl
@[simp] theorem State.streamFault_pending (fault : StreamFault) (shortA shortB : Bool) (frame : FrameNumber) (s : State) :
    (s.streamFault fault shortA shortB frame).pending = s.pending :=
  rfl

end Sys2Proof.Machine
end

