-- ==== Sys2Proof/Laws/Link.lean ====
section
/-! SUPPORT. What the shared operations of the control link do, each said once, and the relation between a queue and the transmitter that all of them keep. -/

namespace Sys2Proof.Machine

theorem Link.choose_sending (l : Link) : l.choose.sending := by
  cases h1 : l.replies with
  | cons r rest => simp [Link.choose, Link.sending, h1]
  | nil =>
    cases h2 : l.notices with
    | cons n rest => simp [Link.choose, Link.sending, h1, h2]
    | nil => simp [Link.choose, Link.sending, h1, h2]

@[simp] theorem Link.choose_requests (l : Link) : l.choose.requests = l.requests := by unfold Link.choose; split <;> rfl
@[simp] theorem Link.choose_dispatcher (l : Link) : l.choose.dispatcher = l.dispatcher := by unfold Link.choose; split <;> rfl
@[simp] theorem Link.choose_replies (l : Link) : l.choose.replies = l.replies := by unfold Link.choose; split <;> rfl
@[simp] theorem Link.choose_notices (l : Link) : l.choose.notices = l.notices := by unfold Link.choose; split <;> rfl
@[simp] theorem Link.choose_receiver (l : Link) : l.choose.receiver = l.receiver := by unfold Link.choose; split <;> rfl
@[simp] theorem Link.choose_rate (l : Link) : l.choose.rate = l.rate := by unfold Link.choose; split <;> rfl

@[simp] theorem Link.kick_requests (l : Link) : l.kick.requests = l.requests := by unfold Link.kick; split <;> simp
@[simp] theorem Link.kick_dispatcher (l : Link) : l.kick.dispatcher = l.dispatcher := by unfold Link.kick; split <;> simp
@[simp] theorem Link.kick_replies (l : Link) : l.kick.replies = l.replies := by unfold Link.kick; split <;> simp
@[simp] theorem Link.kick_notices (l : Link) : l.kick.notices = l.notices := by unfold Link.kick; split <;> simp
@[simp] theorem Link.kick_receiver (l : Link) : l.kick.receiver = l.receiver := by unfold Link.kick; split <;> simp
@[simp] theorem Link.kick_rate (l : Link) : l.kick.rate = l.rate := by unfold Link.kick; split <;> simp

@[simp] theorem Link.placeReply_requests (r : Reply) (l : Link) : (l.placeReply r).requests = l.requests := by
  simp [Link.placeReply]
@[simp] theorem Link.placeReply_dispatcher (r : Reply) (l : Link) : (l.placeReply r).dispatcher = l.dispatcher := by
  simp [Link.placeReply]
@[simp] theorem Link.placeReply_replies (r : Reply) (l : Link) : (l.placeReply r).replies = l.replies ++ [r] := by
  simp [Link.placeReply]
@[simp] theorem Link.placeReply_notices (r : Reply) (l : Link) : (l.placeReply r).notices = l.notices := by
  simp [Link.placeReply]
@[simp] theorem Link.placeReply_receiver (r : Reply) (l : Link) : (l.placeReply r).receiver = l.receiver := by
  simp [Link.placeReply]

@[simp] theorem Link.offerNotice_requests (n : Notice) (l : Link) : (l.offerNotice n).requests = l.requests := by
  unfold Link.offerNotice; split <;> simp
@[simp] theorem Link.offerNotice_dispatcher (n : Notice) (l : Link) : (l.offerNotice n).dispatcher = l.dispatcher := by
  unfold Link.offerNotice; split <;> simp
@[simp] theorem Link.offerNotice_replies (n : Notice) (l : Link) : (l.offerNotice n).replies = l.replies := by
  unfold Link.offerNotice; split <;> simp
@[simp] theorem Link.offerNotice_receiver (n : Notice) (l : Link) : (l.offerNotice n).receiver = l.receiver := by
  unfold Link.offerNotice; split <;> simp

/-- R183: a notice joins the queue, or is lost when sixteen wait. -/
theorem Link.offerNotice_notices (n : Notice) (l : Link) :
    (l.offerNotice n).notices = if l.notices.length < 16 then l.notices ++ [n] else l.notices := by
  unfold Link.offerNotice Config.noticePlaces
  split <;> simp

/-- A queue that has grown keeps the transmitter's relation to it once the idle transmitter has chosen. -/
theorem Link.kick_sending (l : Link)
    (h : match l.transmitter with
      | .idle => True
      | .sendingReply bytes => ∃ r rest, l.replies = r :: rest ∧ bytes = r.wire
      | .sendingNotice bytes => ∃ n rest, l.notices = n :: rest ∧ bytes = n.wire) : l.kick.sending := by
  unfold Link.kick
  split
  · exact Link.choose_sending l
  · rename_i e; unfold Link.sending; rw [e] at h ⊢; exact h
  · rename_i e; unfold Link.sending; rw [e] at h ⊢; exact h

theorem Link.placeReply_sending (r : Reply) (l : Link) (h : l.sending) : (l.placeReply r).sending := by
  apply Link.kick_sending
  unfold Link.sending at h
  dsimp only
  cases e : l.transmitter with
  | idle => trivial
  | sendingReply bytes =>
    rw [e] at h
    obtain ⟨r', rest, h1, h2⟩ := h
    exact ⟨r', rest ++ [r], by simp [h1], h2⟩
  | sendingNotice bytes => rw [e] at h; exact h

theorem Link.offerNotice_sending (n : Notice) (l : Link) (h : l.sending) : (l.offerNotice n).sending := by
  unfold Link.offerNotice
  split
  · apply Link.kick_sending
    unfold Link.sending at h
    dsimp only
    cases e : l.transmitter with
    | idle => trivial
    | sendingReply bytes => rw [e] at h; exact h
    | sendingNotice bytes =>
      rw [e] at h
      obtain ⟨n', rest, h1, h2⟩ := h
      exact ⟨n', rest ++ [n], by simp [h1], h2⟩
  · exact h

/-- R181: the end of a notice leaves the transmitter with the oldest entry of a queue, or idle. -/
theorem Link.noticeSent_sending (l : Link) (h : l.sending) : l.noticeSent.sending := by
  unfold Link.noticeSent
  split
  · exact h
  · exact h
  · unfold Link.sent
    split
    · exact h
    · exact Link.choose_sending _
    · exact Link.choose_sending _

/-- R181: the end of a notice takes at most the oldest notice, and nothing else, out of the queues. -/
theorem Link.noticeSent_queues (l : Link) :
    l.noticeSent.requests = l.requests ∧ l.noticeSent.dispatcher = l.dispatcher ∧ l.noticeSent.replies = l.replies
      ∧ (l.noticeSent.notices = l.notices ∨ l.noticeSent.notices = l.notices.tail) := by
  unfold Link.noticeSent
  split
  · exact ⟨rfl, rfl, rfl, Or.inl rfl⟩
  · exact ⟨rfl, rfl, rfl, Or.inl rfl⟩
  · rename_i bytes h
    unfold Link.sent
    rw [h]
    simp

/-- R171: the bits of a byte give it back. -/
theorem lrxValue_goodByte (b : Byte) : lrxValue (goodByte b) = b := by
  revert b; decide +kernel

/-- R171: a good byte is taken whether or not the receiver waits for LRX to be high. -/
theorem Link.lineByte_goodByte (starting : Bool) (b : Byte) (l : Link) :
    l.lineByte starting (goodByte b) =
      Link.takeByte starting b { l with receiver := { l.receiver with awaitHigh := false } } := by
  unfold Link.lineByte
  rw [lrxValue_goodByte]
  simp [goodByte]

/-- R180: a built reply is placed and its request removed, or it is held. -/
theorem Link.settle_cases (r : Reply) (l : Link) :
    (l.replies.length < 4 ∧ l.settle r = (l.placeReply r).requestDone)
      ∨ (4 ≤ l.replies.length ∧ l.settle r = { l with dispatcher := .executing (.holding r) }) := by
  unfold Link.settle Config.replyPlaces
  split
  · left; exact ⟨by assumption, rfl⟩
  · right; exact ⟨by omega, rfl⟩

/-- What a request row answers when the dispatcher may carry out a request of its kind: the request's effect, then its answer (R177, R180). -/
theorem serve_current (kind : Byte) (act : List Byte → State → State × Answer) (s : State) (q : Request)
    (h : s.current = some q) (k : q.kind = kind) :
    serve kind act s = (act q.payload s).1.answer (act q.payload s).2 := by
  unfold serve State.onRequest
  rw [h]
  simp [k]

theorem serve_serves {kind : Byte} {payload : List Byte} {s : State} (act : List Byte → State → State × Answer)
    (h : Serves s kind payload) : serve kind act s = (act payload s).1.answer (act payload s).2 := by
  obtain ⟨tag, h⟩ := h
  exact serve_current kind act s _ h rfl

/-- What a request row does that does not answer through `serve`. -/
theorem onRequest_current (is : Byte → Bool) (f : Request → State → State) (s : State) (q : Request)
    (h : s.current = some q) (k : is q.kind = true) : s.onRequest is f = f q s := by
  unfold State.onRequest
  rw [h]
  simp [k]

/-- A request row does nothing unless the dispatcher may carry out a request of its kind (log 2, log 3). -/
theorem serve_other (kind : Byte) (act : List Byte → State → State × Answer) (s : State)
    (h : ∀ q, s.current = some q → q.kind ≠ kind) : serve kind act s = s := by
  unfold serve State.onRequest
  cases e : s.current with
  | none => rfl
  | some q => simp [h q e]

end Sys2Proof.Machine
end

