-- ==== Sys2Proof/Laws/Tables.lean ====
section
/-! SUPPORT. Reading a table after an entry is written or the table is made. -/

namespace Sys2Proof.Machine

@[simp] theorem put_getElem {α : Type} {n : Nat} (v : Vector α n) (k : Fin n) (x : α) (i : Nat) (h : i < n) :
    (put v k x)[i] = if k.val = i then x else v[i] := by
  simp [put, Vector.getElem_set]

@[simp] theorem tab_getElem {α : Type} {n : Nat} (f : Fin n → α) (i : Nat) (h : i < n) : (tab f)[i] = f ⟨i, h⟩ := by
  simp [tab]

theorem put_get_self {α : Type} {n : Nat} (v : Vector α n) (k : Fin n) (x : α) : (put v k x)[k] = x := by
  simp

theorem put_get_ne {α : Type} {n : Nat} (v : Vector α n) (k j : Fin n) (x : α) (h : j ≠ k) : (put v k x)[j] = v[j] := by
  have h' : k.val ≠ j.val := fun e => h (Fin.ext e.symm)
  simp [h']

theorem put_get {α : Type} {n : Nat} (v : Vector α n) (k j : Fin n) (x : α) :
    (put v k x)[j] = if j = k then x else v[j] := by
  by_cases h : j = k
  · subst h; rw [put_get_self, if_pos rfl]
  · rw [if_neg h, put_get_ne v k j x h]

theorem tab_get {α : Type} {n : Nat} (f : Fin n → α) (k : Fin n) : (tab f)[k] = f k := by
  simp

/-- Two tables with the same entries are the same table. -/
theorem table_ext {α : Type} {n : Nat} {v w : Vector α n} (h : ∀ k : Fin n, v[k] = w[k]) : v = w := by
  apply Vector.ext
  intro i hi
  exact h ⟨i, hi⟩

theorem put_same {α : Type} {n : Nat} (v : Vector α n) (k : Fin n) : put v k v[k] = v := by
  apply table_ext
  intro j
  rw [put_get]
  split
  · rename_i e; rw [e]
  · rfl

@[simp] theorem put_same_val {α : Type} {n : Nat} (v : Vector α n) (k : Fin n) : put v k v[k.val] = v := put_same v k

/-- The four entries of a table of four, in order. -/
theorem toList_four {α : Type} (v : Vector α 4) : v.toList = [v[0], v[1], v[2], v[3]] := by
  apply List.ext_getElem
  · simp
  · intro i h _
    have h4 : i < 4 := by simpa using h
    interval_cases i <;> simp

end Sys2Proof.Machine
end

