-- ==== Sys2Proof/Laws/Frames.lean ====
section
/-! SUPPORT. What the composite operations leave alone: for each operation one lemma that names the only fields it can change, from which every other field follows. -/

namespace Sys2Proof.Machine

/-- From `s` to `t` only the units, the pending event set, the store and the link's queues can differ. -/
structure OnlyUnits (s t : State) : Prop where
  engine : t.engine = s.engine
  runNumber : t.runNumber = s.runNumber
  setup : t.setup = s.setup
  image : t.image = s.image
  startup : t.startup = s.startup
  iface : t.iface = s.iface
  lanes : t.lanes = s.lanes
  lastTaken : t.lastTaken = s.lastTaken
  measures : t.measures = s.measures
  conditions : t.conditions = s.conditions
  timers : t.timers = s.timers
  actionLevels : t.actionLevels = s.actionLevels
  workPins : t.workPins = s.workPins
  inputs : t.inputs = s.inputs
  pending : t.pending = s.pending

theorem OnlyUnits.refl (s : State) : OnlyUnits s s := by constructor <;> rfl

theorem OnlyUnits.trans {s t u : State} (h : OnlyUnits s t) (g : OnlyUnits t u) : OnlyUnits s u :=
  ⟨g.engine.trans h.engine, g.runNumber.trans h.runNumber, g.setup.trans h.setup, g.image.trans h.image,
    g.startup.trans h.startup, g.iface.trans h.iface, g.lanes.trans h.lanes, g.lastTaken.trans h.lastTaken,
    g.measures.trans h.measures, g.conditions.trans h.conditions, g.timers.trans h.timers,
    g.actionLevels.trans h.actionLevels, g.workPins.trans h.workPins, g.inputs.trans h.inputs,
    g.pending.trans h.pending⟩

theorem OnlyUnits.rest {s t : State} (h : OnlyUnits s t) :
    { t with units := s.units, events := s.events, store := s.store, link := s.link } = s := by
  obtain ⟨h0, h1, h2, h3, h4, h5, h6, h7, h8, h9, h10, h11, h12, h13, h14⟩ := h
  cases s; cases t; simp_all

/-- Operations one after the other over a list. -/
theorem OnlyUnits.foldl {α : Type} (f : State → α → State) (h : ∀ s x, OnlyUnits s (f s x)) (xs : List α) (s : State) :
    OnlyUnits s (xs.foldl f s) := by
  induction xs generalizing s with
  | nil => exact OnlyUnits.refl s
  | cons x xs ih => exact (h s x).trans (ih (f s x))

/-- From `s` to `t` only the frame interface, the timers, the units' INTERRUPTED flags, the pending event set and the link's queues can differ. -/
structure OnlyStream (s t : State) : Prop where
  engine : t.engine = s.engine
  runNumber : t.runNumber = s.runNumber
  setup : t.setup = s.setup
  image : t.image = s.image
  startup : t.startup = s.startup
  lanes : t.lanes = s.lanes
  lastTaken : t.lastTaken = s.lastTaken
  measures : t.measures = s.measures
  conditions : t.conditions = s.conditions
  actionLevels : t.actionLevels = s.actionLevels
  workPins : t.workPins = s.workPins
  inputs : t.inputs = s.inputs
  store : t.store = s.store
  pending : t.pending = s.pending

theorem OnlyStream.refl (s : State) : OnlyStream s s := by constructor <;> rfl

theorem OnlyStream.trans {s t u : State} (h : OnlyStream s t) (g : OnlyStream t u) : OnlyStream s u :=
  ⟨g.engine.trans h.engine, g.runNumber.trans h.runNumber, g.setup.trans h.setup, g.image.trans h.image,
    g.startup.trans h.startup, g.lanes.trans h.lanes, g.lastTaken.trans h.lastTaken, g.measures.trans h.measures,
    g.conditions.trans h.conditions, g.actionLevels.trans h.actionLevels, g.workPins.trans h.workPins,
    g.inputs.trans h.inputs, g.store.trans h.store, g.pending.trans h.pending⟩

theorem OnlyStream.rest {s t : State} (h : OnlyStream s t) :
    { t with iface := s.iface, timers := s.timers, units := s.units, events := s.events, link := s.link } = s := by
  obtain ⟨h0, h1, h2, h3, h4, h5, h6, h7, h8, h9, h10, h11, h12, h13⟩ := h
  cases s; cases t; simp_all

/-- Operations one after the other over a list. -/
theorem OnlyStream.foldl {α : Type} (f : State → α → State) (h : ∀ s x, OnlyStream s (f s x)) (xs : List α) (s : State) :
    OnlyStream s (xs.foldl f s) := by
  induction xs generalizing s with
  | nil => exact OnlyStream.refl s
  | cons x xs ih => exact (h s x).trans (ih (f s x))

/-- From `s` to `t` only the frame interface, the timers, the units, the pending event set, the store and the link can differ. -/
structure OnlyWork (s t : State) : Prop where
  engine : t.engine = s.engine
  runNumber : t.runNumber = s.runNumber
  setup : t.setup = s.setup
  image : t.image = s.image
  startup : t.startup = s.startup
  lanes : t.lanes = s.lanes
  lastTaken : t.lastTaken = s.lastTaken
  measures : t.measures = s.measures
  conditions : t.conditions = s.conditions
  actionLevels : t.actionLevels = s.actionLevels
  workPins : t.workPins = s.workPins
  inputs : t.inputs = s.inputs
  pending : t.pending = s.pending

theorem OnlyWork.refl (s : State) : OnlyWork s s := by constructor <;> rfl

theorem OnlyWork.trans {s t u : State} (h : OnlyWork s t) (g : OnlyWork t u) : OnlyWork s u :=
  ⟨g.engine.trans h.engine, g.runNumber.trans h.runNumber, g.setup.trans h.setup, g.image.trans h.image,
    g.startup.trans h.startup, g.lanes.trans h.lanes, g.lastTaken.trans h.lastTaken, g.measures.trans h.measures,
    g.conditions.trans h.conditions, g.actionLevels.trans h.actionLevels, g.workPins.trans h.workPins,
    g.inputs.trans h.inputs, g.pending.trans h.pending⟩

theorem OnlyWork.rest {s t : State} (h : OnlyWork s t) :
    { t with iface := s.iface, timers := s.timers, events := s.events, units := s.units, store := s.store, link := s.link } = s := by
  obtain ⟨h0, h1, h2, h3, h4, h5, h6, h7, h8, h9, h10, h11, h12⟩ := h
  cases s; cases t; simp_all

/-- Operations one after the other over a list. -/
theorem OnlyWork.foldl {α : Type} (f : State → α → State) (h : ∀ s x, OnlyWork s (f s x)) (xs : List α) (s : State) :
    OnlyWork s (xs.foldl f s) := by
  induction xs generalizing s with
  | nil => exact OnlyWork.refl s
  | cons x xs ih => exact (h s x).trans (ih (f s x))

/-- From `s` to `t` only the inputs and the pending event set can differ. -/
structure OnlyInputs (s t : State) : Prop where
  engine : t.engine = s.engine
  runNumber : t.runNumber = s.runNumber
  setup : t.setup = s.setup
  image : t.image = s.image
  startup : t.startup = s.startup
  iface : t.iface = s.iface
  lanes : t.lanes = s.lanes
  lastTaken : t.lastTaken = s.lastTaken
  measures : t.measures = s.measures
  conditions : t.conditions = s.conditions
  timers : t.timers = s.timers
  actionLevels : t.actionLevels = s.actionLevels
  workPins : t.workPins = s.workPins
  units : t.units = s.units
  store : t.store = s.store
  link : t.link = s.link
  pending : t.pending = s.pending

theorem OnlyInputs.refl (s : State) : OnlyInputs s s := by constructor <;> rfl

theorem OnlyInputs.trans {s t u : State} (h : OnlyInputs s t) (g : OnlyInputs t u) : OnlyInputs s u :=
  ⟨g.engine.trans h.engine, g.runNumber.trans h.runNumber, g.setup.trans h.setup, g.image.trans h.image,
    g.startup.trans h.startup, g.iface.trans h.iface, g.lanes.trans h.lanes, g.lastTaken.trans h.lastTaken,
    g.measures.trans h.measures, g.conditions.trans h.conditions, g.timers.trans h.timers,
    g.actionLevels.trans h.actionLevels, g.workPins.trans h.workPins, g.units.trans h.units, g.store.trans h.store,
    g.link.trans h.link, g.pending.trans h.pending⟩

theorem OnlyInputs.rest {s t : State} (h : OnlyInputs s t) :
    { t with inputs := s.inputs, events := s.events } = s := by
  obtain ⟨h0, h1, h2, h3, h4, h5, h6, h7, h8, h9, h10, h11, h12, h13, h14, h15, h16⟩ := h
  cases s; cases t; simp_all

/-- Operations one after the other over a list. -/
theorem OnlyInputs.foldl {α : Type} (f : State → α → State) (h : ∀ s x, OnlyInputs s (f s x)) (xs : List α) (s : State) :
    OnlyInputs s (xs.foldl f s) := by
  induction xs generalizing s with
  | nil => exact OnlyInputs.refl s
  | cons x xs ih => exact (h s x).trans (ih (f s x))

/-- From `s` to `t` only the conditions and the pending event set can differ. -/
structure OnlyConditions (s t : State) : Prop where
  engine : t.engine = s.engine
  runNumber : t.runNumber = s.runNumber
  setup : t.setup = s.setup
  image : t.image = s.image
  startup : t.startup = s.startup
  iface : t.iface = s.iface
  lanes : t.lanes = s.lanes
  lastTaken : t.lastTaken = s.lastTaken
  measures : t.measures = s.measures
  timers : t.timers = s.timers
  actionLevels : t.actionLevels = s.actionLevels
  workPins : t.workPins = s.workPins
  inputs : t.inputs = s.inputs
  units : t.units = s.units
  store : t.store = s.store
  link : t.link = s.link
  pending : t.pending = s.pending

theorem OnlyConditions.refl (s : State) : OnlyConditions s s := by constructor <;> rfl

theorem OnlyConditions.trans {s t u : State} (h : OnlyConditions s t) (g : OnlyConditions t u) : OnlyConditions s u :=
  ⟨g.engine.trans h.engine, g.runNumber.trans h.runNumber, g.setup.trans h.setup, g.image.trans h.image,
    g.startup.trans h.startup, g.iface.trans h.iface, g.lanes.trans h.lanes, g.lastTaken.trans h.lastTaken,
    g.measures.trans h.measures, g.timers.trans h.timers, g.actionLevels.trans h.actionLevels,
    g.workPins.trans h.workPins, g.inputs.trans h.inputs, g.units.trans h.units, g.store.trans h.store,
    g.link.trans h.link, g.pending.trans h.pending⟩

theorem OnlyConditions.rest {s t : State} (h : OnlyConditions s t) :
    { t with conditions := s.conditions, events := s.events } = s := by
  obtain ⟨h0, h1, h2, h3, h4, h5, h6, h7, h8, h9, h10, h11, h12, h13, h14, h15, h16⟩ := h
  cases s; cases t; simp_all

/-- Operations one after the other over a list. -/
theorem OnlyConditions.foldl {α : Type} (f : State → α → State) (h : ∀ s x, OnlyConditions s (f s x)) (xs : List α) (s : State) :
    OnlyConditions s (xs.foldl f s) := by
  induction xs generalizing s with
  | nil => exact OnlyConditions.refl s
  | cons x xs ih => exact (h s x).trans (ih (f s x))

/-- From `s` to `t` only the timers can differ. -/
structure OnlyTimers (s t : State) : Prop where
  engine : t.engine = s.engine
  runNumber : t.runNumber = s.runNumber
  setup : t.setup = s.setup
  image : t.image = s.image
  startup : t.startup = s.startup
  iface : t.iface = s.iface
  lanes : t.lanes = s.lanes
  lastTaken : t.lastTaken = s.lastTaken
  measures : t.measures = s.measures
  conditions : t.conditions = s.conditions
  events : t.events = s.events
  actionLevels : t.actionLevels = s.actionLevels
  workPins : t.workPins = s.workPins
  inputs : t.inputs = s.inputs
  units : t.units = s.units
  store : t.store = s.store
  link : t.link = s.link
  pending : t.pending = s.pending

theorem OnlyTimers.refl (s : State) : OnlyTimers s s := by constructor <;> rfl

theorem OnlyTimers.trans {s t u : State} (h : OnlyTimers s t) (g : OnlyTimers t u) : OnlyTimers s u :=
  ⟨g.engine.trans h.engine, g.runNumber.trans h.runNumber, g.setup.trans h.setup, g.image.trans h.image,
    g.startup.trans h.startup, g.iface.trans h.iface, g.lanes.trans h.lanes, g.lastTaken.trans h.lastTaken,
    g.measures.trans h.measures, g.conditions.trans h.conditions, g.events.trans h.events,
    g.actionLevels.trans h.actionLevels, g.workPins.trans h.workPins, g.inputs.trans h.inputs,
    g.units.trans h.units, g.store.trans h.store, g.link.trans h.link, g.pending.trans h.pending⟩

theorem OnlyTimers.rest {s t : State} (h : OnlyTimers s t) :
    { t with timers := s.timers } = s := by
  obtain ⟨h0, h1, h2, h3, h4, h5, h6, h7, h8, h9, h10, h11, h12, h13, h14, h15, h16, h17⟩ := h
  cases s; cases t; simp_all

/-- Operations one after the other over a list. -/
theorem OnlyTimers.foldl {α : Type} (f : State → α → State) (h : ∀ s x, OnlyTimers s (f s x)) (xs : List α) (s : State) :
    OnlyTimers s (xs.foldl f s) := by
  induction xs generalizing s with
  | nil => exact OnlyTimers.refl s
  | cons x xs ih => exact (h s x).trans (ih (f s x))

/-- From `s` to `t` only the action levels can differ. -/
structure OnlyLevels (s t : State) : Prop where
  engine : t.engine = s.engine
  runNumber : t.runNumber = s.runNumber
  setup : t.setup = s.setup
  image : t.image = s.image
  startup : t.startup = s.startup
  iface : t.iface = s.iface
  lanes : t.lanes = s.lanes
  lastTaken : t.lastTaken = s.lastTaken
  measures : t.measures = s.measures
  conditions : t.conditions = s.conditions
  timers : t.timers = s.timers
  events : t.events = s.events
  workPins : t.workPins = s.workPins
  inputs : t.inputs = s.inputs
  units : t.units = s.units
  store : t.store = s.store
  link : t.link = s.link
  pending : t.pending = s.pending

theorem OnlyLevels.refl (s : State) : OnlyLevels s s := by constructor <;> rfl

theorem OnlyLevels.trans {s t u : State} (h : OnlyLevels s t) (g : OnlyLevels t u) : OnlyLevels s u :=
  ⟨g.engine.trans h.engine, g.runNumber.trans h.runNumber, g.setup.trans h.setup, g.image.trans h.image,
    g.startup.trans h.startup, g.iface.trans h.iface, g.lanes.trans h.lanes, g.lastTaken.trans h.lastTaken,
    g.measures.trans h.measures, g.conditions.trans h.conditions, g.timers.trans h.timers, g.events.trans h.events,
    g.workPins.trans h.workPins, g.inputs.trans h.inputs, g.units.trans h.units, g.store.trans h.store,
    g.link.trans h.link, g.pending.trans h.pending⟩

theorem OnlyLevels.rest {s t : State} (h : OnlyLevels s t) :
    { t with actionLevels := s.actionLevels } = s := by
  obtain ⟨h0, h1, h2, h3, h4, h5, h6, h7, h8, h9, h10, h11, h12, h13, h14, h15, h16, h17⟩ := h
  cases s; cases t; simp_all

/-- Operations one after the other over a list. -/
theorem OnlyLevels.foldl {α : Type} (f : State → α → State) (h : ∀ s x, OnlyLevels s (f s x)) (xs : List α) (s : State) :
    OnlyLevels s (xs.foldl f s) := by
  induction xs generalizing s with
  | nil => exact OnlyLevels.refl s
  | cons x xs ih => exact (h s x).trans (ih (f s x))

/-- From `s` to `t` only the link can differ. -/
structure OnlyLink (s t : State) : Prop where
  engine : t.engine = s.engine
  runNumber : t.runNumber = s.runNumber
  setup : t.setup = s.setup
  image : t.image = s.image
  startup : t.startup = s.startup
  iface : t.iface = s.iface
  lanes : t.lanes = s.lanes
  lastTaken : t.lastTaken = s.lastTaken
  measures : t.measures = s.measures
  conditions : t.conditions = s.conditions
  timers : t.timers = s.timers
  events : t.events = s.events
  actionLevels : t.actionLevels = s.actionLevels
  workPins : t.workPins = s.workPins
  inputs : t.inputs = s.inputs
  units : t.units = s.units
  store : t.store = s.store
  pending : t.pending = s.pending

theorem OnlyLink.refl (s : State) : OnlyLink s s := by constructor <;> rfl

theorem OnlyLink.trans {s t u : State} (h : OnlyLink s t) (g : OnlyLink t u) : OnlyLink s u :=
  ⟨g.engine.trans h.engine, g.runNumber.trans h.runNumber, g.setup.trans h.setup, g.image.trans h.image,
    g.startup.trans h.startup, g.iface.trans h.iface, g.lanes.trans h.lanes, g.lastTaken.trans h.lastTaken,
    g.measures.trans h.measures, g.conditions.trans h.conditions, g.timers.trans h.timers, g.events.trans h.events,
    g.actionLevels.trans h.actionLevels, g.workPins.trans h.workPins, g.inputs.trans h.inputs,
    g.units.trans h.units, g.store.trans h.store, g.pending.trans h.pending⟩

theorem OnlyLink.rest {s t : State} (h : OnlyLink s t) :
    { t with link := s.link } = s := by
  obtain ⟨h0, h1, h2, h3, h4, h5, h6, h7, h8, h9, h10, h11, h12, h13, h14, h15, h16, h17⟩ := h
  cases s; cases t; simp_all

/-- Operations one after the other over a list. -/
theorem OnlyLink.foldl {α : Type} (f : State → α → State) (h : ∀ s x, OnlyLink s (f s x)) (xs : List α) (s : State) :
    OnlyLink s (xs.foldl f s) := by
  induction xs generalizing s with
  | nil => exact OnlyLink.refl s
  | cons x xs ih => exact (h s x).trans (ih (f s x))

/-! ### The base operations -/

theorem raise_units (id : EventId) (s : State) : OnlyUnits s (s.raise id) := by constructor <;> simp
theorem raise_stream (id : EventId) (s : State) : OnlyStream s (s.raise id) := by constructor <;> simp
theorem raise_inputs (id : EventId) (s : State) : OnlyInputs s (s.raise id) := by constructor <;> simp
theorem notify_only (n : Notice) (s : State) : OnlyLink s (s.notify n) := by constructor <;> rfl
theorem notify_units (n : Notice) (s : State) : OnlyUnits s (s.notify n) := by constructor <;> rfl
theorem notify_stream (n : Notice) (s : State) : OnlyStream s (s.notify n) := by constructor <;> rfl
theorem giveBack_only (pages : List Page) (s : State) : OnlyUnits s (s.giveBack pages) := by constructor <;> rfl
theorem setUnitState_only (k : Fin 4) (u : UnitState) (s : State) : OnlyUnits s (s.setUnitState k u) := by
  constructor <;> rfl
theorem writeFrame_only (pg : Page) (pos : Nat) (mask : BitVec 16) (s : State) : OnlyUnits s (s.writeFrame pg pos mask) := by
  constructor <;> rfl

/-! ### The store and the units -/

/-- R150: what a granted claim gives. -/
theorem claim_some {k : Nat} {s t : State} {pages : List Page} (h : s.claim k = some (pages, t)) :
    k ≤ s.store.free.length ∧ pages = s.store.free.take k ∧ OnlyUnits s t ∧ t.units = s.units ∧ t.link = s.link
      ∧ t.store = { s.store with
          free := s.store.free.drop k, low := lowState (s.store.free.length - k) s.setup.store.lowWater }
      ∧ (t.events = s.events ∨ t.events = insertId evStoreLow s.events) := by
  unfold State.claim at h
  split at h
  · rename_i hk
    simp only [List.length_drop] at h
    injection h with h
    injection h with h1 h2
    subst h2
    refine ⟨hk, h1.symm, ?_⟩
    split
    · refine ⟨(by constructor <;> simp : OnlyUnits s _), by simp, by simp, by simp, ?_⟩
      rw [State.raise_events]
      split
      · exact Or.inr rfl
      · exact Or.inl rfl
    · exact ⟨by constructor <;> rfl, rfl, rfl, rfl, Or.inl rfl⟩
  · cases h

/-- R150: a claim is refused exactly when the free pages are too few. -/
theorem claim_none {k : Nat} {s : State} : s.claim k = none ↔ s.store.free.length < k := by
  unfold State.claim
  split <;> simp <;> omega

theorem tryArm_some {k : Fin 4} {s t : State} (h : s.tryArm k = some t) : OnlyUnits s t := by
  unfold State.tryArm at h
  split at h
  · rename_i pages u e
    injection h with h
    subst h
    exact (claim_some e).2.2.1.trans (setUnitState_only _ _ _)
  · cases h

theorem armOrReport_only (k : Fin 4) (cause : ArmCause) (frame : FrameNumber) (s : State) :
    OnlyUnits s (s.armOrReport k cause frame) := by
  unfold State.armOrReport
  split
  · exact tryArm_some (by assumption)
  · exact notify_units _ _

theorem armUnitBy_only (k : Fin 4) (cause : ArmCause) (frame : FrameNumber) (s : State) :
    OnlyUnits s (s.armUnitBy k cause frame) := by
  unfold State.armUnitBy
  split
  · exact armOrReport_only _ _ _ _
  all_goals exact OnlyUnits.refl _

theorem triggerUnitBy_only (k : Fin 4) (source : Byte) (word : BitVec 32) (frame : Option FrameNumber) (s : State) :
    OnlyUnits s (s.triggerUnitBy k source word frame) := by
  unfold State.triggerUnitBy
  split
  · exact OnlyUnits.refl _
  · exact (setUnitState_only _ _ _).trans (raise_units _ _)
  · exact (setUnitState_only _ _ _).trans (raise_units _ _)
  · exact setUnitState_only _ _ _

theorem appendRecord_only (r : CaptureRecord) (s : State) : OnlyUnits s (s.appendRecord r) := by constructor <;> rfl
theorem removeRecord_only (r : CaptureRecord) (s : State) : OnlyUnits s (s.removeRecord r) := by constructor <;> rfl
theorem dropCapture_only (r : CaptureRecord) (s : State) : OnlyUnits s (s.dropCapture r) := by constructor <;> rfl

theorem keepOrDrop_only (r : CaptureRecord) (s : State) : OnlyUnits s (s.keepOrDrop r).1 := by
  unfold State.keepOrDrop
  repeat' split
  · exact appendRecord_only _ _
  · exact dropCapture_only _ _
  · exact ((removeRecord_only _ _).trans (notify_units _ _)).trans (appendRecord_only _ _)
  · exact dropCapture_only _ _

theorem handOver_only (r : CaptureRecord) (s : State) : OnlyUnits s (s.handOver r).1 := by
  unfold State.handOver
  refine OnlyUnits.trans ?_ (keepOrDrop_only _ _)
  constructor <;> rfl

theorem closeCapture_only (k : Fin 4) (s : State) : OnlyUnits s (s.closeCapture k) := by
  unfold State.closeCapture
  have h := ((setUnitState_only k clearedUnit s).trans (handOver_only (captureRecord k s) _)).trans (raise_units (evClosed k) _)
  dsimp only
  split
  · exact h.trans (notify_units _ _)
  · exact h

@[simp] theorem keepOrDrop_units (r : CaptureRecord) (s : State) : (s.keepOrDrop r).1.units = s.units := by
  unfold State.keepOrDrop
  repeat' split
  all_goals rfl

@[simp] theorem keepOrDrop_events (r : CaptureRecord) (s : State) : (s.keepOrDrop r).1.events = s.events := by
  unfold State.keepOrDrop
  repeat' split
  all_goals rfl

@[simp] theorem keepOrDrop_mem (r : CaptureRecord) (s : State) : (s.keepOrDrop r).1.store.mem = s.store.mem := by
  unfold State.keepOrDrop
  repeat' split
  all_goals rfl

@[simp] theorem keepOrDrop_nextId (r : CaptureRecord) (s : State) : (s.keepOrDrop r).1.store.nextId = s.store.nextId := by
  unfold State.keepOrDrop
  repeat' split
  all_goals rfl

@[simp] theorem handOver_units (r : CaptureRecord) (s : State) : (s.handOver r).1.units = s.units := by
  unfold State.handOver; simp

@[simp] theorem handOver_events (r : CaptureRecord) (s : State) : (s.handOver r).1.events = s.events := by
  unfold State.handOver; simp

@[simp] theorem handOver_mem (r : CaptureRecord) (s : State) : (s.handOver r).1.store.mem = s.store.mem := by
  unfold State.handOver; simp

/-- R138: a close leaves the unit IDLE with its working record cleared, and the other units alone. -/
@[simp] theorem closeCapture_units (k : Fin 4) (s : State) : (s.closeCapture k).units = put s.units k clearedUnit := by
  unfold State.closeCapture
  dsimp only
  split <;> simp [State.setUnitState]

/-- R138, R88: a close while RUNNING places CLOSED in the pending event set. -/
theorem closeCapture_events (k : Fin 4) (s : State) :
    (s.closeCapture k).events = if s.engine = .running then insertId (evClosed k) s.events else s.events := by
  have h : (State.raise (evClosed k) ((s.setUnitState k clearedUnit).handOver (captureRecord k s)).1).events
      = if s.engine = .running then insertId (evClosed k) s.events else s.events := by
    rw [State.raise_events, handOver_events, ((setUnitState_only k clearedUnit s).trans (handOver_only _ _)).engine,
      State.setUnitState_events]
  unfold State.closeCapture
  dsimp only
  split
  · rw [State.notify_events, h]
  · exact h

@[simp] theorem closeCapture_mem (k : Fin 4) (s : State) : (s.closeCapture k).store.mem = s.store.mem := by
  unfold State.closeCapture
  dsimp only
  split <;> simp

@[simp] theorem discardCapture_units (k : Fin 4) (s : State) : (s.discardCapture k).units = put s.units k clearedUnit := by
  unfold State.discardCapture; simp [State.setUnitState]

theorem discardCapture_only (k : Fin 4) (s : State) : OnlyUnits s (s.discardCapture k) :=
  (((setUnitState_only _ _ _).trans (giveBack_only _ _)).trans (notify_units _ _)).trans (raise_units _ _)

theorem rearm_only (k : Fin 4) (frame : FrameNumber) (s : State) : OnlyUnits s (s.rearm k frame) := by
  unfold State.rearm
  split
  · exact armUnitBy_only _ _ _ _
  · exact OnlyUnits.refl _

theorem flagUnit_only (k : Fin 4) (f : CaptureFlags → CaptureFlags) (s : State) : OnlyUnits s (s.flagUnit k f) :=
  setUnitState_only _ _ _

theorem giveUp_only (k : Fin 4) (s : State) : OnlyUnits s (s.giveUp k) :=
  (setUnitState_only _ _ _).trans (giveBack_only _ _)

theorem abortUnitBy_only (k : Fin 4) (s : State) : OnlyUnits s (s.abortUnitBy k) := by
  unfold State.abortUnitBy
  split
  · exact OnlyUnits.refl _
  · exact giveUp_only _ _
  · exact giveUp_only _ _
  · exact (flagUnit_only _ _ _).trans (closeCapture_only _ _)

theorem stopUnit_only (k : Fin 4) (s : State) : OnlyUnits s (s.stopUnit k) := by
  unfold State.stopUnit
  split
  · exact OnlyUnits.refl _
  · exact giveUp_only _ _
  · exact giveUp_only _ _
  · exact (flagUnit_only _ _ _).trans (closeCapture_only _ _)

theorem storeHistory_only (k : Fin 4) (f : FrameNumber) (s : State) : OnlyUnits s (s.storeHistory k f) := by
  unfold State.storeHistory
  dsimp only
  split
  · exact OnlyUnits.refl _
  · split
    · exact (writeFrame_only _ _ _ _).trans (setUnitState_only _ _ _)
    · exact setUnitState_only _ _ _

theorem storePost_only (k : Fin 4) (f : FrameNumber) (s : State) : OnlyUnits s (s.storePost k f) := by
  unfold State.storePost
  dsimp only
  have h : ∀ o : Option Page, OnlyUnits s
      (match o with
        | some pg => s.writeFrame pg (s.units[k].postCount % framesPerPage s.setup.units[k].mask) s.setup.units[k].mask
        | none => s) := by
    intro o
    cases o
    · exact OnlyUnits.refl _
    · exact writeFrame_only _ _ _ _
  split
  · exact (((h _).trans (setUnitState_only _ _ _)).trans (closeCapture_only _ _)).trans (rearm_only _ _ _)
  · exact (h _).trans (setUnitState_only _ _ _)

theorem pageRefused_only (k : Fin 4) (f : FrameNumber) (s : State) : OnlyUnits s (s.pageRefused k f) := by
  unfold State.pageRefused
  split
  · exact ((flagUnit_only _ _ _).trans (closeCapture_only _ _)).trans (rearm_only _ _ _)
  · exact (discardCapture_only _ _).trans (rearm_only _ _ _)

theorem handlePost_only (k : Fin 4) (f : FrameNumber) (s : State) : OnlyUnits s (s.handlePost k f) := by
  unfold State.handlePost
  split
  · split
    · exact ((claim_some (by assumption)).2.2.1.trans (setUnitState_only _ _ _)).trans (storePost_only _ _ _)
    · exact pageRefused_only _ _ _
  · exact storePost_only _ _ _

theorem handleFrame_only (k : Fin 4) (f : FrameNumber) (s : State) : OnlyUnits s (s.handleFrame k f) := by
  unfold State.handleFrame
  split
  · exact OnlyUnits.refl _
  · exact storeHistory_only _ _ _
  · exact storeHistory_only _ _ _
  · exact handlePost_only _ _ _

theorem unitAction_only (fired : List (Fin 48)) (frame : FrameNumber) (word : BitVec 32) (k : Fin 4) (s : State) :
    OnlyUnits s (s.unitAction fired frame word k) := by
  unfold State.unitAction
  split
  · exact abortUnitBy_only _ _
  · exact triggerUnitBy_only _ _ _ _ _
  · exact armUnitBy_only _ _ _ _
  · exact OnlyUnits.refl _

theorem unitWork_only (fired : List (Fin 48)) (frame : FrameNumber) (word : BitVec 32) (s : State) (k : Fin 4) :
    OnlyUnits s (s.unitWork fired frame word k) :=
  (unitAction_only _ _ _ _ _).trans (handleFrame_only _ _ _)

/-! ### The stream -/

theorem advanceTimers_only (s : State) : OnlyStream s s.advanceTimers := by
  unfold State.advanceTimers
  refine OnlyStream.trans ?_ (OnlyStream.foldl _ (fun a t => raise_stream _ _) _ _)
  constructor <;> rfl

theorem streamFault_only (fault : StreamFault) (shortA shortB : Bool) (frame : FrameNumber) (s : State) :
    OnlyStream s (s.streamFault fault shortA shortB frame) := notify_stream _ _

theorem shortFrame_only (s : State) : OnlyStream s s.shortFrame := by
  unfold State.shortFrame
  refine OnlyStream.trans ?_ (streamFault_only _ _ _ _ _)
  refine OnlyStream.trans ?_ (raise_stream _ _)
  constructor <;> rfl

theorem overrunFrame_only (s : State) : OnlyStream s s.overrunFrame := by
  unfold State.overrunFrame
  refine OnlyStream.trans ?_ (streamFault_only _ _ _ _ _)
  refine OnlyStream.trans ?_ (raise_stream _ _)
  constructor <;> rfl

theorem endFrame_only (s : State) : OnlyStream s s.endFrame := by
  unfold State.endFrame
  repeat' split
  · exact shortFrame_only s
  · exact overrunFrame_only s
  · constructor <;> rfl

theorem startFrame_only (s : State) : OnlyStream s s.startFrame := by constructor <;> rfl

theorem boundary_only (s : State) : OnlyStream s s.boundary := by
  unfold State.boundary
  refine OnlyStream.trans ?_ (startFrame_only _)
  refine OnlyStream.trans ?_ (endFrame_only _)
  refine OnlyStream.trans ?_ (advanceTimers_only _)
  constructor <;> rfl

theorem regain_only (s : State) : OnlyStream s s.regain := by
  unfold State.regain
  refine OnlyStream.trans ?_ (streamFault_only _ _ _ _ _)
  refine OnlyStream.trans ?_ (raise_stream _ _)
  refine OnlyStream.trans ?_ (startFrame_only _)
  constructor <;> rfl

theorem syncEdge_only (s : State) : OnlyStream s s.syncEdge := by
  unfold State.syncEdge
  repeat' split
  · exact OnlyStream.refl s
  · refine OnlyStream.trans ?_ (startFrame_only _)
    constructor <;> rfl
  · exact regain_only s
  · exact startFrame_only s
  · exact boundary_only s

theorem judgeSync_only (e : SckEdge) (s : State) : OnlyStream s (s.judgeSync e) := by
  unfold State.judgeSync
  have h : ∀ fsy, OnlyStream s (s.noteFsy fsy) := fun fsy => by constructor <;> rfl
  dsimp only
  repeat' split
  · exact (h _).trans (syncEdge_only _)
  · exact h _
  · exact OnlyStream.refl s

theorem shiftIn_only (e : SckEdge) (s : State) : OnlyStream s (s.shiftIn e) := by
  unfold State.shiftIn
  repeat' split
  all_goals first | exact OnlyStream.refl s | (constructor <;> rfl)

theorem noteSck_only (e : SckEdge) (s : State) : OnlyStream s (s.noteSck e) := by constructor <;> rfl

theorem clock_only (e : SckEdge) (s : State) : OnlyStream s (s.clock e) := by
  unfold State.clock
  split
  · exact OnlyStream.refl s
  all_goals exact ((noteSck_only _ _).trans (judgeSync_only _ _)).trans (shiftIn_only _ _)

theorem clockAll_only (edges : List SckEdge) (s : State) : OnlyStream s (s.clockAll edges) :=
  OnlyStream.foldl _ (fun a e => clock_only e a) edges s

theorem loseSync_only (s : State) : OnlyStream s s.loseSync := by
  unfold State.loseSync
  refine OnlyStream.trans ?_ (streamFault_only _ _ _ _ _)
  refine OnlyStream.trans ?_ (raise_stream _ _)
  constructor <;> rfl

theorem quiet_only (periods : Nat) (s : State) : OnlyStream s (s.quiet periods) := by
  unfold State.quiet
  repeat' split
  · exact OnlyStream.refl s
  · exact loseSync_only s
  · constructor <;> rfl

/-- Edges in two chunks are the edges one after the other (log 8). -/
theorem clockAll_append (es fs : List SckEdge) (s : State) : s.clockAll (es ++ fs) = (s.clockAll es).clockAll fs :=
  List.foldl_append ..

/-! ### The input lines -/

theorem acceptInput_only (i : Fin 2) (s : State) : OnlyInputs s (s.acceptInput i) := by
  unfold State.acceptInput
  refine OnlyInputs.trans ?_ (raise_inputs _ _)
  constructor <;> rfl

theorem measureHold_only (i : Fin 2) (time : Nat) (s : State) : OnlyInputs s (s.measureHold i time) := by
  unfold State.measureHold
  split
  · exact acceptInput_only _ _
  · constructor <;> rfl

theorem refilter_only (i : Fin 2) (s : State) : OnlyInputs s (s.refilter i) := by
  unfold State.refilter
  split
  · exact OnlyInputs.refl s
  · exact measureHold_only _ _ _

theorem samplePin_only (i : Fin 2) (level : Bool) (s : State) : OnlyInputs s (s.samplePin i level) := by
  unfold State.samplePin
  dsimp only
  repeat' split
  · constructor <;> rfl
  · refine OnlyInputs.trans ?_ (measureHold_only _ _ _)
    constructor <;> rfl
  · constructor <;> rfl

theorem holdPin_only (i : Fin 2) (periods : Nat) (s : State) : OnlyInputs s (s.holdPin i periods) := by
  unfold State.holdPin
  split
  · exact OnlyInputs.refl s
  · exact measureHold_only _ _ _

/-! ### The actions of a delivery -/

theorem onCondition_only (op : ConditionSetup → ConditionState → ConditionState) (c : Fin 32) (s : State) :
    OnlyConditions s (s.onCondition op c) := by constructor <;> simp

theorem conditionActions_only (fired : List (Fin 48)) (s : State) :
    OnlyConditions s ((List.finRange 32).foldl (fun a c => a.conditionAction fired c) s) := by
  refine OnlyConditions.foldl _ (fun a c => ?_) _ s
  unfold State.conditionAction
  split
  · exact onCondition_only _ _ _
  · exact onCondition_only _ _ _
  · exact onCondition_only _ _ _
  · exact OnlyConditions.refl _

theorem timerAction_only (fired : List (Fin 48)) (t : Fin 4) (s : State) : OnlyTimers s (s.timerAction fired t) := by
  unfold State.timerAction
  split
  · constructor <;> rfl
  · constructor <;> rfl
  · constructor <;> rfl
  · exact OnlyTimers.refl _

theorem timerActions_only (fired : List (Fin 48)) (ts : List (Fin 4)) (s : State) :
    OnlyTimers s (ts.foldl (fun a t => a.timerAction fired t) s) :=
  OnlyTimers.foldl _ (fun a t => timerAction_only fired t a) ts s

theorem lineActions_only (fired : List (Fin 48)) (s : State) :
    OnlyLevels s ((List.finRange 4).foldl (fun a o => a.lineAction fired o) s) := by
  refine OnlyLevels.foldl _ (fun a o => ?_) _ s
  unfold State.lineAction
  split
  · constructor <;> rfl
  · constructor <;> rfl
  · constructor <;> rfl
  · exact OnlyLevels.refl _

theorem offerEvent_only (frame : FrameNumber) (word : BitVec 32) (s : State) (b : Fin 48) :
    OnlyLink s (s.offerEvent frame word b) := notify_only _ s

theorem noticeSent_only (s : State) : OnlyLink s s.noticeSent := by constructor <;> rfl

theorem unitWorks_only (fired : List (Fin 48)) (frame : FrameNumber) (word : BitVec 32) (us : List (Fin 4)) (s : State) :
    OnlyUnits s (us.foldl (State.unitWork fired frame word) s) :=
  OnlyUnits.foldl _ (fun a k => unitWork_only fired frame word a k) us s

/-! ### What comes about during the work of a frame -/

/-- A relation that every single happening and every single moment of the work keeps holds over the whole, however they are interleaved. -/
theorem interleave_keeps {P : State → State → Prop} (fired : List (Fin 48)) (frame : FrameNumber) (word : BitVec 32)
    (refl : ∀ s, P s s) (trans : ∀ s t u, P s t → P t u → P s u)
    (clock : ∀ e s, P s (State.clock e s)) (quiet : ∀ n s, P s (State.quiet n s)) (sent : ∀ s, P s (State.noticeSent s))
    (timer : ∀ t s, P s (State.timerAction fired t s)) (event : ∀ b s, P s (State.offerEvent frame word s b))
    (unit : ∀ k s, P s (State.unitWork fired frame word s k)) :
    ∀ (during : List StreamEvent) (ts : List (Fin 4)) (ns : List (Fin 48)) (us : List (Fin 4)) (s : State),
      P s (State.interleave fired frame word during ts ns us s) := by
  have fold : ∀ {α : Type} (f : State → α → State), (∀ x s, P s (f s x)) → ∀ (xs : List α) (s : State), P s (xs.foldl f s) := by
    intro α f h xs
    induction xs with
    | nil => exact refl
    | cons x xs ih => exact fun s => trans _ _ _ (h x s) (ih _)
  intro during
  induction during with
  | nil =>
    exact fun ts ns us s =>
      trans _ _ _ (trans _ _ _ (fold (fun a t => State.timerAction fired t a) timer ts s) (fold _ event ns _)) (fold _ unit us _)
  | cons e es ih =>
    intro ts ns us s
    cases e with
    | edge e => exact trans _ _ _ (clock e s) (ih _ _ _ _)
    | quiet n => exact trans _ _ _ (quiet n s) (ih _ _ _ _)
    | noticeSent => exact trans _ _ _ (sent s) (ih _ _ _ _)
    | timer t =>
      refine trans _ _ _ ?_ (ih _ _ _ _)
      split
      · exact timer t s
      · exact refl s
    | event => exact trans _ _ _ (fold _ event _ s) (ih _ _ _ _)
    | unit => exact trans _ _ _ (fold _ unit _ s) (ih _ _ _ _)

theorem interleave_only (fired : List (Fin 48)) (frame : FrameNumber) (word : BitVec 32) (during : List StreamEvent)
    (ts : List (Fin 4)) (ns : List (Fin 48)) (us : List (Fin 4)) (s : State) :
    OnlyWork s (State.interleave fired frame word during ts ns us s) := by
  refine interleave_keeps fired frame word OnlyWork.refl (fun _ _ _ h g => h.trans g) (fun e s => ?_) (fun n s => ?_)
    (fun s => ?_) (fun t s => ?_) (fun b s => ?_) (fun k s => ?_) during ts ns us s
  · obtain ⟨⟩ := clock_only e s; constructor <;> assumption
  · obtain ⟨⟩ := quiet_only n s; constructor <;> assumption
  · constructor <;> rfl
  · obtain ⟨⟩ := timerAction_only fired t s; constructor <;> assumption
  · constructor <;> rfl
  · obtain ⟨⟩ := unitWork_only fired frame word s k; constructor <;> assumption


/-! ### The fields the outer operations leave alone -/

@[simp] theorem State.closeCapture_engine (k : Fin 4) (s : State) : (s.closeCapture k).engine = s.engine :=
  (closeCapture_only k s).engine
@[simp] theorem State.closeCapture_runNumber (k : Fin 4) (s : State) : (s.closeCapture k).runNumber = s.runNumber :=
  (closeCapture_only k s).runNumber
@[simp] theorem State.closeCapture_setup (k : Fin 4) (s : State) : (s.closeCapture k).setup = s.setup :=
  (closeCapture_only k s).setup
@[simp] theorem State.closeCapture_image (k : Fin 4) (s : State) : (s.closeCapture k).image = s.image :=
  (closeCapture_only k s).image
@[simp] theorem State.closeCapture_startup (k : Fin 4) (s : State) : (s.closeCapture k).startup = s.startup :=
  (closeCapture_only k s).startup
@[simp] theorem State.closeCapture_iface (k : Fin 4) (s : State) : (s.closeCapture k).iface = s.iface :=
  (closeCapture_only k s).iface
@[simp] theorem State.closeCapture_lanes (k : Fin 4) (s : State) : (s.closeCapture k).lanes = s.lanes :=
  (closeCapture_only k s).lanes
@[simp] theorem State.closeCapture_lastTaken (k : Fin 4) (s : State) : (s.closeCapture k).lastTaken = s.lastTaken :=
  (closeCapture_only k s).lastTaken
@[simp] theorem State.closeCapture_measures (k : Fin 4) (s : State) : (s.closeCapture k).measures = s.measures :=
  (closeCapture_only k s).measures
@[simp] theorem State.closeCapture_conditions (k : Fin 4) (s : State) :
    (s.closeCapture k).conditions = s.conditions :=
  (closeCapture_only k s).conditions
@[simp] theorem State.closeCapture_timers (k : Fin 4) (s : State) : (s.closeCapture k).timers = s.timers :=
  (closeCapture_only k s).timers
@[simp] theorem State.closeCapture_actionLevels (k : Fin 4) (s : State) :
    (s.closeCapture k).actionLevels = s.actionLevels :=
  (closeCapture_only k s).actionLevels
@[simp] theorem State.closeCapture_workPins (k : Fin 4) (s : State) : (s.closeCapture k).workPins = s.workPins :=
  (closeCapture_only k s).workPins
@[simp] theorem State.closeCapture_inputs (k : Fin 4) (s : State) : (s.closeCapture k).inputs = s.inputs :=
  (closeCapture_only k s).inputs
@[simp] theorem State.closeCapture_pending (k : Fin 4) (s : State) : (s.closeCapture k).pending = s.pending :=
  (closeCapture_only k s).pending

@[simp] theorem State.discardCapture_engine (k : Fin 4) (s : State) : (s.discardCapture k).engine = s.engine :=
  (discardCapture_only k s).engine
@[simp] theorem State.discardCapture_runNumber (k : Fin 4) (s : State) :
    (s.discardCapture k).runNumber = s.runNumber :=
  (discardCapture_only k s).runNumber
@[simp] theorem State.discardCapture_setup (k : Fin 4) (s : State) : (s.discardCapture k).setup = s.setup :=
  (discardCapture_only k s).setup
@[simp] theorem State.discardCapture_image (k : Fin 4) (s : State) : (s.discardCapture k).image = s.image :=
  (discardCapture_only k s).image
@[simp] theorem State.discardCapture_startup (k : Fin 4) (s : State) : (s.discardCapture k).startup = s.startup :=
  (discardCapture_only k s).startup
@[simp] theorem State.discardCapture_iface (k : Fin 4) (s : State) : (s.discardCapture k).iface = s.iface :=
  (discardCapture_only k s).iface
@[simp] theorem State.discardCapture_lanes (k : Fin 4) (s : State) : (s.discardCapture k).lanes = s.lanes :=
  (discardCapture_only k s).lanes
@[simp] theorem State.discardCapture_lastTaken (k : Fin 4) (s : State) :
    (s.discardCapture k).lastTaken = s.lastTaken :=
  (discardCapture_only k s).lastTaken
@[simp] theorem State.discardCapture_measures (k : Fin 4) (s : State) : (s.discardCapture k).measures = s.measures :=
  (discardCapture_only k s).measures
@[simp] theorem State.discardCapture_conditions (k : Fin 4) (s : State) :
    (s.discardCapture k).conditions = s.conditions :=
  (discardCapture_only k s).conditions
@[simp] theorem State.discardCapture_timers (k : Fin 4) (s : State) : (s.discardCapture k).timers = s.timers :=
  (discardCapture_only k s).timers
@[simp] theorem State.discardCapture_actionLevels (k : Fin 4) (s : State) :
    (s.discardCapture k).actionLevels = s.actionLevels :=
  (discardCapture_only k s).actionLevels
@[simp] theorem State.discardCapture_workPins (k : Fin 4) (s : State) : (s.discardCapture k).workPins = s.workPins :=
  (discardCapture_only k s).workPins
@[simp] theorem State.discardCapture_inputs (k : Fin 4) (s : State) : (s.discardCapture k).inputs = s.inputs :=
  (discardCapture_only k s).inputs
@[simp] theorem State.discardCapture_pending (k : Fin 4) (s : State) : (s.discardCapture k).pending = s.pending :=
  (discardCapture_only k s).pending

@[simp] theorem State.rearm_engine (k : Fin 4) (frame : FrameNumber) (s : State) :
    (s.rearm k frame).engine = s.engine :=
  (rearm_only k frame s).engine
@[simp] theorem State.rearm_runNumber (k : Fin 4) (frame : FrameNumber) (s : State) :
    (s.rearm k frame).runNumber = s.runNumber :=
  (rearm_only k frame s).runNumber
@[simp] theorem State.rearm_setup (k : Fin 4) (frame : FrameNumber) (s : State) : (s.rearm k frame).setup = s.setup :=
  (rearm_only k frame s).setup
@[simp] theorem State.rearm_image (k : Fin 4) (frame : FrameNumber) (s : State) : (s.rearm k frame).image = s.image :=
  (rearm_only k frame s).image
@[simp] theorem State.rearm_startup (k : Fin 4) (frame : FrameNumber) (s : State) :
    (s.rearm k frame).startup = s.startup :=
  (rearm_only k frame s).startup
@[simp] theorem State.rearm_iface (k : Fin 4) (frame : FrameNumber) (s : State) : (s.rearm k frame).iface = s.iface :=
  (rearm_only k frame s).iface
@[simp] theorem State.rearm_lanes (k : Fin 4) (frame : FrameNumber) (s : State) : (s.rearm k frame).lanes = s.lanes :=
  (rearm_only k frame s).lanes
@[simp] theorem State.rearm_lastTaken (k : Fin 4) (frame : FrameNumber) (s : State) :
    (s.rearm k frame).lastTaken = s.lastTaken :=
  (rearm_only k frame s).lastTaken
@[simp] theorem State.rearm_measures (k : Fin 4) (frame : FrameNumber) (s : State) :
    (s.rearm k frame).measures = s.measures :=
  (rearm_only k frame s).measures
@[simp] theorem State.rearm_conditions (k : Fin 4) (frame : FrameNumber) (s : State) :
    (s.rearm k frame).conditions = s.conditions :=
  (rearm_only k frame s).conditions
@[simp] theorem State.rearm_timers (k : Fin 4) (frame : FrameNumber) (s : State) :
    (s.rearm k frame).timers = s.timers :=
  (rearm_only k frame s).timers
@[simp] theorem State.rearm_actionLevels (k : Fin 4) (frame : FrameNumber) (s : State) :
    (s.rearm k frame).actionLevels = s.actionLevels :=
  (rearm_only k frame s).actionLevels
@[simp] theorem State.rearm_workPins (k : Fin 4) (frame : FrameNumber) (s : State) :
    (s.rearm k frame).workPins = s.workPins :=
  (rearm_only k frame s).workPins
@[simp] theorem State.rearm_inputs (k : Fin 4) (frame : FrameNumber) (s : State) :
    (s.rearm k frame).inputs = s.inputs :=
  (rearm_only k frame s).inputs
@[simp] theorem State.rearm_pending (k : Fin 4) (frame : FrameNumber) (s : State) :
    (s.rearm k frame).pending = s.pending :=
  (rearm_only k frame s).pending

@[simp] theorem State.flagUnit_engine (k : Fin 4) (f : CaptureFlags → CaptureFlags) (s : State) :
    (s.flagUnit k f).engine = s.engine :=
  (flagUnit_only k f s).engine
@[simp] theorem State.flagUnit_runNumber (k : Fin 4) (f : CaptureFlags → CaptureFlags) (s : State) :
    (s.flagUnit k f).runNumber = s.runNumber :=
  (flagUnit_only k f s).runNumber
@[simp] theorem State.flagUnit_setup (k : Fin 4) (f : CaptureFlags → CaptureFlags) (s : State) :
    (s.flagUnit k f).setup = s.setup :=
  (flagUnit_only k f s).setup
@[simp] theorem State.flagUnit_image (k : Fin 4) (f : CaptureFlags → CaptureFlags) (s : State) :
    (s.flagUnit k f).image = s.image :=
  (flagUnit_only k f s).image
@[simp] theorem State.flagUnit_startup (k : Fin 4) (f : CaptureFlags → CaptureFlags) (s : State) :
    (s.flagUnit k f).startup = s.startup :=
  (flagUnit_only k f s).startup
@[simp] theorem State.flagUnit_iface (k : Fin 4) (f : CaptureFlags → CaptureFlags) (s : State) :
    (s.flagUnit k f).iface = s.iface :=
  (flagUnit_only k f s).iface
@[simp] theorem State.flagUnit_lanes (k : Fin 4) (f : CaptureFlags → CaptureFlags) (s : State) :
    (s.flagUnit k f).lanes = s.lanes :=
  (flagUnit_only k f s).lanes
@[simp] theorem State.flagUnit_lastTaken (k : Fin 4) (f : CaptureFlags → CaptureFlags) (s : State) :
    (s.flagUnit k f).lastTaken = s.lastTaken :=
  (flagUnit_only k f s).lastTaken
@[simp] theorem State.flagUnit_measures (k : Fin 4) (f : CaptureFlags → CaptureFlags) (s : State) :
    (s.flagUnit k f).measures = s.measures :=
  (flagUnit_only k f s).measures
@[simp] theorem State.flagUnit_conditions (k : Fin 4) (f : CaptureFlags → CaptureFlags) (s : State) :
    (s.flagUnit k f).conditions = s.conditions :=
  (flagUnit_only k f s).conditions
@[simp] theorem State.flagUnit_timers (k : Fin 4) (f : CaptureFlags → CaptureFlags) (s : State) :
    (s.flagUnit k f).timers = s.timers :=
  (flagUnit_only k f s).timers
@[simp] theorem State.flagUnit_actionLevels (k : Fin 4) (f : CaptureFlags → CaptureFlags) (s : State) :
    (s.flagUnit k f).actionLevels = s.actionLevels :=
  (flagUnit_only k f s).actionLevels
@[simp] theorem State.flagUnit_workPins (k : Fin 4) (f : CaptureFlags → CaptureFlags) (s : State) :
    (s.flagUnit k f).workPins = s.workPins :=
  (flagUnit_only k f s).workPins
@[simp] theorem State.flagUnit_inputs (k : Fin 4) (f : CaptureFlags → CaptureFlags) (s : State) :
    (s.flagUnit k f).inputs = s.inputs :=
  (flagUnit_only k f s).inputs
@[simp] theorem State.flagUnit_pending (k : Fin 4) (f : CaptureFlags → CaptureFlags) (s : State) :
    (s.flagUnit k f).pending = s.pending :=
  (flagUnit_only k f s).pending

@[simp] theorem State.giveUp_engine (k : Fin 4) (s : State) : (s.giveUp k).engine = s.engine :=
  (giveUp_only k s).engine
@[simp] theorem State.giveUp_runNumber (k : Fin 4) (s : State) : (s.giveUp k).runNumber = s.runNumber :=
  (giveUp_only k s).runNumber
@[simp] theorem State.giveUp_setup (k : Fin 4) (s : State) : (s.giveUp k).setup = s.setup := (giveUp_only k s).setup
@[simp] theorem State.giveUp_image (k : Fin 4) (s : State) : (s.giveUp k).image = s.image := (giveUp_only k s).image
@[simp] theorem State.giveUp_startup (k : Fin 4) (s : State) : (s.giveUp k).startup = s.startup :=
  (giveUp_only k s).startup
@[simp] theorem State.giveUp_iface (k : Fin 4) (s : State) : (s.giveUp k).iface = s.iface := (giveUp_only k s).iface
@[simp] theorem State.giveUp_lanes (k : Fin 4) (s : State) : (s.giveUp k).lanes = s.lanes := (giveUp_only k s).lanes
@[simp] theorem State.giveUp_lastTaken (k : Fin 4) (s : State) : (s.giveUp k).lastTaken = s.lastTaken :=
  (giveUp_only k s).lastTaken
@[simp] theorem State.giveUp_measures (k : Fin 4) (s : State) : (s.giveUp k).measures = s.measures :=
  (giveUp_only k s).measures
@[simp] theorem State.giveUp_conditions (k : Fin 4) (s : State) : (s.giveUp k).conditions = s.conditions :=
  (giveUp_only k s).conditions
@[simp] theorem State.giveUp_timers (k : Fin 4) (s : State) : (s.giveUp k).timers = s.timers :=
  (giveUp_only k s).timers
@[simp] theorem State.giveUp_actionLevels (k : Fin 4) (s : State) : (s.giveUp k).actionLevels = s.actionLevels :=
  (giveUp_only k s).actionLevels
@[simp] theorem State.giveUp_workPins (k : Fin 4) (s : State) : (s.giveUp k).workPins = s.workPins :=
  (giveUp_only k s).workPins
@[simp] theorem State.giveUp_inputs (k : Fin 4) (s : State) : (s.giveUp k).inputs = s.inputs :=
  (giveUp_only k s).inputs
@[simp] theorem State.giveUp_pending (k : Fin 4) (s : State) : (s.giveUp k).pending = s.pending :=
  (giveUp_only k s).pending

@[simp] theorem State.abortUnitBy_engine (k : Fin 4) (s : State) : (s.abortUnitBy k).engine = s.engine :=
  (abortUnitBy_only k s).engine
@[simp] theorem State.abortUnitBy_runNumber (k : Fin 4) (s : State) : (s.abortUnitBy k).runNumber = s.runNumber :=
  (abortUnitBy_only k s).runNumber
@[simp] theorem State.abortUnitBy_setup (k : Fin 4) (s : State) : (s.abortUnitBy k).setup = s.setup :=
  (abortUnitBy_only k s).setup
@[simp] theorem State.abortUnitBy_image (k : Fin 4) (s : State) : (s.abortUnitBy k).image = s.image :=
  (abortUnitBy_only k s).image
@[simp] theorem State.abortUnitBy_startup (k : Fin 4) (s : State) : (s.abortUnitBy k).startup = s.startup :=
  (abortUnitBy_only k s).startup
@[simp] theorem State.abortUnitBy_iface (k : Fin 4) (s : State) : (s.abortUnitBy k).iface = s.iface :=
  (abortUnitBy_only k s).iface
@[simp] theorem State.abortUnitBy_lanes (k : Fin 4) (s : State) : (s.abortUnitBy k).lanes = s.lanes :=
  (abortUnitBy_only k s).lanes
@[simp] theorem State.abortUnitBy_lastTaken (k : Fin 4) (s : State) : (s.abortUnitBy k).lastTaken = s.lastTaken :=
  (abortUnitBy_only k s).lastTaken
@[simp] theorem State.abortUnitBy_measures (k : Fin 4) (s : State) : (s.abortUnitBy k).measures = s.measures :=
  (abortUnitBy_only k s).measures
@[simp] theorem State.abortUnitBy_conditions (k : Fin 4) (s : State) : (s.abortUnitBy k).conditions = s.conditions :=
  (abortUnitBy_only k s).conditions
@[simp] theorem State.abortUnitBy_timers (k : Fin 4) (s : State) : (s.abortUnitBy k).timers = s.timers :=
  (abortUnitBy_only k s).timers
@[simp] theorem State.abortUnitBy_actionLevels (k : Fin 4) (s : State) :
    (s.abortUnitBy k).actionLevels = s.actionLevels :=
  (abortUnitBy_only k s).actionLevels
@[simp] theorem State.abortUnitBy_workPins (k : Fin 4) (s : State) : (s.abortUnitBy k).workPins = s.workPins :=
  (abortUnitBy_only k s).workPins
@[simp] theorem State.abortUnitBy_inputs (k : Fin 4) (s : State) : (s.abortUnitBy k).inputs = s.inputs :=
  (abortUnitBy_only k s).inputs
@[simp] theorem State.abortUnitBy_pending (k : Fin 4) (s : State) : (s.abortUnitBy k).pending = s.pending :=
  (abortUnitBy_only k s).pending

@[simp] theorem State.stopUnit_engine (k : Fin 4) (s : State) : (s.stopUnit k).engine = s.engine :=
  (stopUnit_only k s).engine
@[simp] theorem State.stopUnit_runNumber (k : Fin 4) (s : State) : (s.stopUnit k).runNumber = s.runNumber :=
  (stopUnit_only k s).runNumber
@[simp] theorem State.stopUnit_setup (k : Fin 4) (s : State) : (s.stopUnit k).setup = s.setup :=
  (stopUnit_only k s).setup
@[simp] theorem State.stopUnit_image (k : Fin 4) (s : State) : (s.stopUnit k).image = s.image :=
  (stopUnit_only k s).image
@[simp] theorem State.stopUnit_startup (k : Fin 4) (s : State) : (s.stopUnit k).startup = s.startup :=
  (stopUnit_only k s).startup
@[simp] theorem State.stopUnit_iface (k : Fin 4) (s : State) : (s.stopUnit k).iface = s.iface :=
  (stopUnit_only k s).iface
@[simp] theorem State.stopUnit_lanes (k : Fin 4) (s : State) : (s.stopUnit k).lanes = s.lanes :=
  (stopUnit_only k s).lanes
@[simp] theorem State.stopUnit_lastTaken (k : Fin 4) (s : State) : (s.stopUnit k).lastTaken = s.lastTaken :=
  (stopUnit_only k s).lastTaken
@[simp] theorem State.stopUnit_measures (k : Fin 4) (s : State) : (s.stopUnit k).measures = s.measures :=
  (stopUnit_only k s).measures
@[simp] theorem State.stopUnit_conditions (k : Fin 4) (s : State) : (s.stopUnit k).conditions = s.conditions :=
  (stopUnit_only k s).conditions
@[simp] theorem State.stopUnit_timers (k : Fin 4) (s : State) : (s.stopUnit k).timers = s.timers :=
  (stopUnit_only k s).timers
@[simp] theorem State.stopUnit_actionLevels (k : Fin 4) (s : State) : (s.stopUnit k).actionLevels = s.actionLevels :=
  (stopUnit_only k s).actionLevels
@[simp] theorem State.stopUnit_workPins (k : Fin 4) (s : State) : (s.stopUnit k).workPins = s.workPins :=
  (stopUnit_only k s).workPins
@[simp] theorem State.stopUnit_inputs (k : Fin 4) (s : State) : (s.stopUnit k).inputs = s.inputs :=
  (stopUnit_only k s).inputs
@[simp] theorem State.stopUnit_pending (k : Fin 4) (s : State) : (s.stopUnit k).pending = s.pending :=
  (stopUnit_only k s).pending

@[simp] theorem State.armUnitBy_engine (k : Fin 4) (cause : ArmCause) (frame : FrameNumber) (s : State) :
    (s.armUnitBy k cause frame).engine = s.engine :=
  (armUnitBy_only k cause frame s).engine
@[simp] theorem State.armUnitBy_runNumber (k : Fin 4) (cause : ArmCause) (frame : FrameNumber) (s : State) :
    (s.armUnitBy k cause frame).runNumber = s.runNumber :=
  (armUnitBy_only k cause frame s).runNumber
@[simp] theorem State.armUnitBy_setup (k : Fin 4) (cause : ArmCause) (frame : FrameNumber) (s : State) :
    (s.armUnitBy k cause frame).setup = s.setup :=
  (armUnitBy_only k cause frame s).setup
@[simp] theorem State.armUnitBy_image (k : Fin 4) (cause : ArmCause) (frame : FrameNumber) (s : State) :
    (s.armUnitBy k cause frame).image = s.image :=
  (armUnitBy_only k cause frame s).image
@[simp] theorem State.armUnitBy_startup (k : Fin 4) (cause : ArmCause) (frame : FrameNumber) (s : State) :
    (s.armUnitBy k cause frame).startup = s.startup :=
  (armUnitBy_only k cause frame s).startup
@[simp] theorem State.armUnitBy_iface (k : Fin 4) (cause : ArmCause) (frame : FrameNumber) (s : State) :
    (s.armUnitBy k cause frame).iface = s.iface :=
  (armUnitBy_only k cause frame s).iface
@[simp] theorem State.armUnitBy_lanes (k : Fin 4) (cause : ArmCause) (frame : FrameNumber) (s : State) :
    (s.armUnitBy k cause frame).lanes = s.lanes :=
  (armUnitBy_only k cause frame s).lanes
@[simp] theorem State.armUnitBy_lastTaken (k : Fin 4) (cause : ArmCause) (frame : FrameNumber) (s : State) :
    (s.armUnitBy k cause frame).lastTaken = s.lastTaken :=
  (armUnitBy_only k cause frame s).lastTaken
@[simp] theorem State.armUnitBy_measures (k : Fin 4) (cause : ArmCause) (frame : FrameNumber) (s : State) :
    (s.armUnitBy k cause frame).measures = s.measures :=
  (armUnitBy_only k cause frame s).measures
@[simp] theorem State.armUnitBy_conditions (k : Fin 4) (cause : ArmCause) (frame : FrameNumber) (s : State) :
    (s.armUnitBy k cause frame).conditions = s.conditions :=
  (armUnitBy_only k cause frame s).conditions
@[simp] theorem State.armUnitBy_timers (k : Fin 4) (cause : ArmCause) (frame : FrameNumber) (s : State) :
    (s.armUnitBy k cause frame).timers = s.timers :=
  (armUnitBy_only k cause frame s).timers
@[simp] theorem State.armUnitBy_actionLevels (k : Fin 4) (cause : ArmCause) (frame : FrameNumber) (s : State) :
    (s.armUnitBy k cause frame).actionLevels = s.actionLevels :=
  (armUnitBy_only k cause frame s).actionLevels
@[simp] theorem State.armUnitBy_workPins (k : Fin 4) (cause : ArmCause) (frame : FrameNumber) (s : State) :
    (s.armUnitBy k cause frame).workPins = s.workPins :=
  (armUnitBy_only k cause frame s).workPins
@[simp] theorem State.armUnitBy_inputs (k : Fin 4) (cause : ArmCause) (frame : FrameNumber) (s : State) :
    (s.armUnitBy k cause frame).inputs = s.inputs :=
  (armUnitBy_only k cause frame s).inputs
@[simp] theorem State.armUnitBy_pending (k : Fin 4) (cause : ArmCause) (frame : FrameNumber) (s : State) :
    (s.armUnitBy k cause frame).pending = s.pending :=
  (armUnitBy_only k cause frame s).pending

@[simp] theorem State.triggerUnitBy_engine (k : Fin 4) (source : Byte) (word : BitVec 32) (frame : Option FrameNumber) (s : State) :
    (s.triggerUnitBy k source word frame).engine = s.engine :=
  (triggerUnitBy_only k source word frame s).engine
@[simp] theorem State.triggerUnitBy_runNumber (k : Fin 4) (source : Byte) (word : BitVec 32) (frame : Option FrameNumber) (s : State) :
    (s.triggerUnitBy k source word frame).runNumber = s.runNumber :=
  (triggerUnitBy_only k source word frame s).runNumber
@[simp] theorem State.triggerUnitBy_setup (k : Fin 4) (source : Byte) (word : BitVec 32) (frame : Option FrameNumber) (s : State) :
    (s.triggerUnitBy k source word frame).setup = s.setup :=
  (triggerUnitBy_only k source word frame s).setup
@[simp] theorem State.triggerUnitBy_image (k : Fin 4) (source : Byte) (word : BitVec 32) (frame : Option FrameNumber) (s : State) :
    (s.triggerUnitBy k source word frame).image = s.image :=
  (triggerUnitBy_only k source word frame s).image
@[simp] theorem State.triggerUnitBy_startup (k : Fin 4) (source : Byte) (word : BitVec 32) (frame : Option FrameNumber) (s : State) :
    (s.triggerUnitBy k source word frame).startup = s.startup :=
  (triggerUnitBy_only k source word frame s).startup
@[simp] theorem State.triggerUnitBy_iface (k : Fin 4) (source : Byte) (word : BitVec 32) (frame : Option FrameNumber) (s : State) :
    (s.triggerUnitBy k source word frame).iface = s.iface :=
  (triggerUnitBy_only k source word frame s).iface
@[simp] theorem State.triggerUnitBy_lanes (k : Fin 4) (source : Byte) (word : BitVec 32) (frame : Option FrameNumber) (s : State) :
    (s.triggerUnitBy k source word frame).lanes = s.lanes :=
  (triggerUnitBy_only k source word frame s).lanes
@[simp] theorem State.triggerUnitBy_lastTaken (k : Fin 4) (source : Byte) (word : BitVec 32) (frame : Option FrameNumber) (s : State) :
    (s.triggerUnitBy k source word frame).lastTaken = s.lastTaken :=
  (triggerUnitBy_only k source word frame s).lastTaken
@[simp] theorem State.triggerUnitBy_measures (k : Fin 4) (source : Byte) (word : BitVec 32) (frame : Option FrameNumber) (s : State) :
    (s.triggerUnitBy k source word frame).measures = s.measures :=
  (triggerUnitBy_only k source word frame s).measures
@[simp] theorem State.triggerUnitBy_conditions (k : Fin 4) (source : Byte) (word : BitVec 32) (frame : Option FrameNumber) (s : State) :
    (s.triggerUnitBy k source word frame).conditions = s.conditions :=
  (triggerUnitBy_only k source word frame s).conditions
@[simp] theorem State.triggerUnitBy_timers (k : Fin 4) (source : Byte) (word : BitVec 32) (frame : Option FrameNumber) (s : State) :
    (s.triggerUnitBy k source word frame).timers = s.timers :=
  (triggerUnitBy_only k source word frame s).timers
@[simp] theorem State.triggerUnitBy_actionLevels (k : Fin 4) (source : Byte) (word : BitVec 32) (frame : Option FrameNumber) (s : State) :
    (s.triggerUnitBy k source word frame).actionLevels = s.actionLevels :=
  (triggerUnitBy_only k source word frame s).actionLevels
@[simp] theorem State.triggerUnitBy_workPins (k : Fin 4) (source : Byte) (word : BitVec 32) (frame : Option FrameNumber) (s : State) :
    (s.triggerUnitBy k source word frame).workPins = s.workPins :=
  (triggerUnitBy_only k source word frame s).workPins
@[simp] theorem State.triggerUnitBy_inputs (k : Fin 4) (source : Byte) (word : BitVec 32) (frame : Option FrameNumber) (s : State) :
    (s.triggerUnitBy k source word frame).inputs = s.inputs :=
  (triggerUnitBy_only k source word frame s).inputs
@[simp] theorem State.triggerUnitBy_pending (k : Fin 4) (source : Byte) (word : BitVec 32) (frame : Option FrameNumber) (s : State) :
    (s.triggerUnitBy k source word frame).pending = s.pending :=
  (triggerUnitBy_only k source word frame s).pending

@[simp] theorem State.handleFrame_engine (k : Fin 4) (f : FrameNumber) (s : State) :
    (s.handleFrame k f).engine = s.engine :=
  (handleFrame_only k f s).engine
@[simp] theorem State.handleFrame_runNumber (k : Fin 4) (f : FrameNumber) (s : State) :
    (s.handleFrame k f).runNumber = s.runNumber :=
  (handleFrame_only k f s).runNumber
@[simp] theorem State.handleFrame_setup (k : Fin 4) (f : FrameNumber) (s : State) :
    (s.handleFrame k f).setup = s.setup :=
  (handleFrame_only k f s).setup
@[simp] theorem State.handleFrame_image (k : Fin 4) (f : FrameNumber) (s : State) :
    (s.handleFrame k f).image = s.image :=
  (handleFrame_only k f s).image
@[simp] theorem State.handleFrame_startup (k : Fin 4) (f : FrameNumber) (s : State) :
    (s.handleFrame k f).startup = s.startup :=
  (handleFrame_only k f s).startup
@[simp] theorem State.handleFrame_iface (k : Fin 4) (f : FrameNumber) (s : State) :
    (s.handleFrame k f).iface = s.iface :=
  (handleFrame_only k f s).iface
@[simp] theorem State.handleFrame_lanes (k : Fin 4) (f : FrameNumber) (s : State) :
    (s.handleFrame k f).lanes = s.lanes :=
  (handleFrame_only k f s).lanes
@[simp] theorem State.handleFrame_lastTaken (k : Fin 4) (f : FrameNumber) (s : State) :
    (s.handleFrame k f).lastTaken = s.lastTaken :=
  (handleFrame_only k f s).lastTaken
@[simp] theorem State.handleFrame_measures (k : Fin 4) (f : FrameNumber) (s : State) :
    (s.handleFrame k f).measures = s.measures :=
  (handleFrame_only k f s).measures
@[simp] theorem State.handleFrame_conditions (k : Fin 4) (f : FrameNumber) (s : State) :
    (s.handleFrame k f).conditions = s.conditions :=
  (handleFrame_only k f s).conditions
@[simp] theorem State.handleFrame_timers (k : Fin 4) (f : FrameNumber) (s : State) :
    (s.handleFrame k f).timers = s.timers :=
  (handleFrame_only k f s).timers
@[simp] theorem State.handleFrame_actionLevels (k : Fin 4) (f : FrameNumber) (s : State) :
    (s.handleFrame k f).actionLevels = s.actionLevels :=
  (handleFrame_only k f s).actionLevels
@[simp] theorem State.handleFrame_workPins (k : Fin 4) (f : FrameNumber) (s : State) :
    (s.handleFrame k f).workPins = s.workPins :=
  (handleFrame_only k f s).workPins
@[simp] theorem State.handleFrame_inputs (k : Fin 4) (f : FrameNumber) (s : State) :
    (s.handleFrame k f).inputs = s.inputs :=
  (handleFrame_only k f s).inputs
@[simp] theorem State.handleFrame_pending (k : Fin 4) (f : FrameNumber) (s : State) :
    (s.handleFrame k f).pending = s.pending :=
  (handleFrame_only k f s).pending

@[simp] theorem State.unitWork_engine (fired : List (Fin 48)) (frame : FrameNumber) (word : BitVec 32) (s : State) (k : Fin 4) :
    (s.unitWork fired frame word k).engine = s.engine :=
  (unitWork_only fired frame word s k).engine
@[simp] theorem State.unitWork_runNumber (fired : List (Fin 48)) (frame : FrameNumber) (word : BitVec 32) (s : State) (k : Fin 4) :
    (s.unitWork fired frame word k).runNumber = s.runNumber :=
  (unitWork_only fired frame word s k).runNumber
@[simp] theorem State.unitWork_setup (fired : List (Fin 48)) (frame : FrameNumber) (word : BitVec 32) (s : State) (k : Fin 4) :
    (s.unitWork fired frame word k).setup = s.setup :=
  (unitWork_only fired frame word s k).setup
@[simp] theorem State.unitWork_image (fired : List (Fin 48)) (frame : FrameNumber) (word : BitVec 32) (s : State) (k : Fin 4) :
    (s.unitWork fired frame word k).image = s.image :=
  (unitWork_only fired frame word s k).image
@[simp] theorem State.unitWork_startup (fired : List (Fin 48)) (frame : FrameNumber) (word : BitVec 32) (s : State) (k : Fin 4) :
    (s.unitWork fired frame word k).startup = s.startup :=
  (unitWork_only fired frame word s k).startup
@[simp] theorem State.unitWork_iface (fired : List (Fin 48)) (frame : FrameNumber) (word : BitVec 32) (s : State) (k : Fin 4) :
    (s.unitWork fired frame word k).iface = s.iface :=
  (unitWork_only fired frame word s k).iface
@[simp] theorem State.unitWork_lanes (fired : List (Fin 48)) (frame : FrameNumber) (word : BitVec 32) (s : State) (k : Fin 4) :
    (s.unitWork fired frame word k).lanes = s.lanes :=
  (unitWork_only fired frame word s k).lanes
@[simp] theorem State.unitWork_lastTaken (fired : List (Fin 48)) (frame : FrameNumber) (word : BitVec 32) (s : State) (k : Fin 4) :
    (s.unitWork fired frame word k).lastTaken = s.lastTaken :=
  (unitWork_only fired frame word s k).lastTaken
@[simp] theorem State.unitWork_measures (fired : List (Fin 48)) (frame : FrameNumber) (word : BitVec 32) (s : State) (k : Fin 4) :
    (s.unitWork fired frame word k).measures = s.measures :=
  (unitWork_only fired frame word s k).measures
@[simp] theorem State.unitWork_conditions (fired : List (Fin 48)) (frame : FrameNumber) (word : BitVec 32) (s : State) (k : Fin 4) :
    (s.unitWork fired frame word k).conditions = s.conditions :=
  (unitWork_only fired frame word s k).conditions
@[simp] theorem State.unitWork_timers (fired : List (Fin 48)) (frame : FrameNumber) (word : BitVec 32) (s : State) (k : Fin 4) :
    (s.unitWork fired frame word k).timers = s.timers :=
  (unitWork_only fired frame word s k).timers
@[simp] theorem State.unitWork_actionLevels (fired : List (Fin 48)) (frame : FrameNumber) (word : BitVec 32) (s : State) (k : Fin 4) :
    (s.unitWork fired frame word k).actionLevels = s.actionLevels :=
  (unitWork_only fired frame word s k).actionLevels
@[simp] theorem State.unitWork_workPins (fired : List (Fin 48)) (frame : FrameNumber) (word : BitVec 32) (s : State) (k : Fin 4) :
    (s.unitWork fired frame word k).workPins = s.workPins :=
  (unitWork_only fired frame word s k).workPins
@[simp] theorem State.unitWork_inputs (fired : List (Fin 48)) (frame : FrameNumber) (word : BitVec 32) (s : State) (k : Fin 4) :
    (s.unitWork fired frame word k).inputs = s.inputs :=
  (unitWork_only fired frame word s k).inputs
@[simp] theorem State.unitWork_pending (fired : List (Fin 48)) (frame : FrameNumber) (word : BitVec 32) (s : State) (k : Fin 4) :
    (s.unitWork fired frame word k).pending = s.pending :=
  (unitWork_only fired frame word s k).pending

@[simp] theorem State.clockAll_engine (edges : List SckEdge) (s : State) : (s.clockAll edges).engine = s.engine :=
  (clockAll_only edges s).engine
@[simp] theorem State.clockAll_runNumber (edges : List SckEdge) (s : State) :
    (s.clockAll edges).runNumber = s.runNumber :=
  (clockAll_only edges s).runNumber
@[simp] theorem State.clockAll_setup (edges : List SckEdge) (s : State) : (s.clockAll edges).setup = s.setup :=
  (clockAll_only edges s).setup
@[simp] theorem State.clockAll_image (edges : List SckEdge) (s : State) : (s.clockAll edges).image = s.image :=
  (clockAll_only edges s).image
@[simp] theorem State.clockAll_startup (edges : List SckEdge) (s : State) : (s.clockAll edges).startup = s.startup :=
  (clockAll_only edges s).startup
@[simp] theorem State.clockAll_lanes (edges : List SckEdge) (s : State) : (s.clockAll edges).lanes = s.lanes :=
  (clockAll_only edges s).lanes
@[simp] theorem State.clockAll_lastTaken (edges : List SckEdge) (s : State) :
    (s.clockAll edges).lastTaken = s.lastTaken :=
  (clockAll_only edges s).lastTaken
@[simp] theorem State.clockAll_measures (edges : List SckEdge) (s : State) :
    (s.clockAll edges).measures = s.measures :=
  (clockAll_only edges s).measures
@[simp] theorem State.clockAll_conditions (edges : List SckEdge) (s : State) :
    (s.clockAll edges).conditions = s.conditions :=
  (clockAll_only edges s).conditions
@[simp] theorem State.clockAll_actionLevels (edges : List SckEdge) (s : State) :
    (s.clockAll edges).actionLevels = s.actionLevels :=
  (clockAll_only edges s).actionLevels
@[simp] theorem State.clockAll_workPins (edges : List SckEdge) (s : State) :
    (s.clockAll edges).workPins = s.workPins :=
  (clockAll_only edges s).workPins
@[simp] theorem State.clockAll_inputs (edges : List SckEdge) (s : State) : (s.clockAll edges).inputs = s.inputs :=
  (clockAll_only edges s).inputs
@[simp] theorem State.clockAll_store (edges : List SckEdge) (s : State) : (s.clockAll edges).store = s.store :=
  (clockAll_only edges s).store
@[simp] theorem State.clockAll_pending (edges : List SckEdge) (s : State) : (s.clockAll edges).pending = s.pending :=
  (clockAll_only edges s).pending

@[simp] theorem State.quiet_engine (periods : Nat) (s : State) : (s.quiet periods).engine = s.engine :=
  (quiet_only periods s).engine
@[simp] theorem State.quiet_runNumber (periods : Nat) (s : State) : (s.quiet periods).runNumber = s.runNumber :=
  (quiet_only periods s).runNumber
@[simp] theorem State.quiet_setup (periods : Nat) (s : State) : (s.quiet periods).setup = s.setup :=
  (quiet_only periods s).setup
@[simp] theorem State.quiet_image (periods : Nat) (s : State) : (s.quiet periods).image = s.image :=
  (quiet_only periods s).image
@[simp] theorem State.quiet_startup (periods : Nat) (s : State) : (s.quiet periods).startup = s.startup :=
  (quiet_only periods s).startup
@[simp] theorem State.quiet_lanes (periods : Nat) (s : State) : (s.quiet periods).lanes = s.lanes :=
  (quiet_only periods s).lanes
@[simp] theorem State.quiet_lastTaken (periods : Nat) (s : State) : (s.quiet periods).lastTaken = s.lastTaken :=
  (quiet_only periods s).lastTaken
@[simp] theorem State.quiet_measures (periods : Nat) (s : State) : (s.quiet periods).measures = s.measures :=
  (quiet_only periods s).measures
@[simp] theorem State.quiet_conditions (periods : Nat) (s : State) : (s.quiet periods).conditions = s.conditions :=
  (quiet_only periods s).conditions
@[simp] theorem State.quiet_actionLevels (periods : Nat) (s : State) :
    (s.quiet periods).actionLevels = s.actionLevels :=
  (quiet_only periods s).actionLevels
@[simp] theorem State.quiet_workPins (periods : Nat) (s : State) : (s.quiet periods).workPins = s.workPins :=
  (quiet_only periods s).workPins
@[simp] theorem State.quiet_inputs (periods : Nat) (s : State) : (s.quiet periods).inputs = s.inputs :=
  (quiet_only periods s).inputs
@[simp] theorem State.quiet_store (periods : Nat) (s : State) : (s.quiet periods).store = s.store :=
  (quiet_only periods s).store
@[simp] theorem State.quiet_pending (periods : Nat) (s : State) : (s.quiet periods).pending = s.pending :=
  (quiet_only periods s).pending

@[simp] theorem State.refilter_engine (i : Fin 2) (s : State) : (s.refilter i).engine = s.engine :=
  (refilter_only i s).engine
@[simp] theorem State.refilter_runNumber (i : Fin 2) (s : State) : (s.refilter i).runNumber = s.runNumber :=
  (refilter_only i s).runNumber
@[simp] theorem State.refilter_setup (i : Fin 2) (s : State) : (s.refilter i).setup = s.setup :=
  (refilter_only i s).setup
@[simp] theorem State.refilter_image (i : Fin 2) (s : State) : (s.refilter i).image = s.image :=
  (refilter_only i s).image
@[simp] theorem State.refilter_startup (i : Fin 2) (s : State) : (s.refilter i).startup = s.startup :=
  (refilter_only i s).startup
@[simp] theorem State.refilter_iface (i : Fin 2) (s : State) : (s.refilter i).iface = s.iface :=
  (refilter_only i s).iface
@[simp] theorem State.refilter_lanes (i : Fin 2) (s : State) : (s.refilter i).lanes = s.lanes :=
  (refilter_only i s).lanes
@[simp] theorem State.refilter_lastTaken (i : Fin 2) (s : State) : (s.refilter i).lastTaken = s.lastTaken :=
  (refilter_only i s).lastTaken
@[simp] theorem State.refilter_measures (i : Fin 2) (s : State) : (s.refilter i).measures = s.measures :=
  (refilter_only i s).measures
@[simp] theorem State.refilter_conditions (i : Fin 2) (s : State) : (s.refilter i).conditions = s.conditions :=
  (refilter_only i s).conditions
@[simp] theorem State.refilter_timers (i : Fin 2) (s : State) : (s.refilter i).timers = s.timers :=
  (refilter_only i s).timers
@[simp] theorem State.refilter_actionLevels (i : Fin 2) (s : State) : (s.refilter i).actionLevels = s.actionLevels :=
  (refilter_only i s).actionLevels
@[simp] theorem State.refilter_workPins (i : Fin 2) (s : State) : (s.refilter i).workPins = s.workPins :=
  (refilter_only i s).workPins
@[simp] theorem State.refilter_units (i : Fin 2) (s : State) : (s.refilter i).units = s.units :=
  (refilter_only i s).units
@[simp] theorem State.refilter_store (i : Fin 2) (s : State) : (s.refilter i).store = s.store :=
  (refilter_only i s).store
@[simp] theorem State.refilter_link (i : Fin 2) (s : State) : (s.refilter i).link = s.link := (refilter_only i s).link
@[simp] theorem State.refilter_pending (i : Fin 2) (s : State) : (s.refilter i).pending = s.pending :=
  (refilter_only i s).pending

@[simp] theorem State.samplePin_engine (i : Fin 2) (level : Bool) (s : State) :
    (s.samplePin i level).engine = s.engine :=
  (samplePin_only i level s).engine
@[simp] theorem State.samplePin_runNumber (i : Fin 2) (level : Bool) (s : State) :
    (s.samplePin i level).runNumber = s.runNumber :=
  (samplePin_only i level s).runNumber
@[simp] theorem State.samplePin_setup (i : Fin 2) (level : Bool) (s : State) :
    (s.samplePin i level).setup = s.setup :=
  (samplePin_only i level s).setup
@[simp] theorem State.samplePin_image (i : Fin 2) (level : Bool) (s : State) :
    (s.samplePin i level).image = s.image :=
  (samplePin_only i level s).image
@[simp] theorem State.samplePin_startup (i : Fin 2) (level : Bool) (s : State) :
    (s.samplePin i level).startup = s.startup :=
  (samplePin_only i level s).startup
@[simp] theorem State.samplePin_iface (i : Fin 2) (level : Bool) (s : State) :
    (s.samplePin i level).iface = s.iface :=
  (samplePin_only i level s).iface
@[simp] theorem State.samplePin_lanes (i : Fin 2) (level : Bool) (s : State) :
    (s.samplePin i level).lanes = s.lanes :=
  (samplePin_only i level s).lanes
@[simp] theorem State.samplePin_lastTaken (i : Fin 2) (level : Bool) (s : State) :
    (s.samplePin i level).lastTaken = s.lastTaken :=
  (samplePin_only i level s).lastTaken
@[simp] theorem State.samplePin_measures (i : Fin 2) (level : Bool) (s : State) :
    (s.samplePin i level).measures = s.measures :=
  (samplePin_only i level s).measures
@[simp] theorem State.samplePin_conditions (i : Fin 2) (level : Bool) (s : State) :
    (s.samplePin i level).conditions = s.conditions :=
  (samplePin_only i level s).conditions
@[simp] theorem State.samplePin_timers (i : Fin 2) (level : Bool) (s : State) :
    (s.samplePin i level).timers = s.timers :=
  (samplePin_only i level s).timers
@[simp] theorem State.samplePin_actionLevels (i : Fin 2) (level : Bool) (s : State) :
    (s.samplePin i level).actionLevels = s.actionLevels :=
  (samplePin_only i level s).actionLevels
@[simp] theorem State.samplePin_workPins (i : Fin 2) (level : Bool) (s : State) :
    (s.samplePin i level).workPins = s.workPins :=
  (samplePin_only i level s).workPins
@[simp] theorem State.samplePin_units (i : Fin 2) (level : Bool) (s : State) :
    (s.samplePin i level).units = s.units :=
  (samplePin_only i level s).units
@[simp] theorem State.samplePin_store (i : Fin 2) (level : Bool) (s : State) :
    (s.samplePin i level).store = s.store :=
  (samplePin_only i level s).store
@[simp] theorem State.samplePin_link (i : Fin 2) (level : Bool) (s : State) : (s.samplePin i level).link = s.link :=
  (samplePin_only i level s).link
@[simp] theorem State.samplePin_pending (i : Fin 2) (level : Bool) (s : State) :
    (s.samplePin i level).pending = s.pending :=
  (samplePin_only i level s).pending

@[simp] theorem State.holdPin_engine (i : Fin 2) (periods : Nat) (s : State) :
    (s.holdPin i periods).engine = s.engine :=
  (holdPin_only i periods s).engine
@[simp] theorem State.holdPin_runNumber (i : Fin 2) (periods : Nat) (s : State) :
    (s.holdPin i periods).runNumber = s.runNumber :=
  (holdPin_only i periods s).runNumber
@[simp] theorem State.holdPin_setup (i : Fin 2) (periods : Nat) (s : State) : (s.holdPin i periods).setup = s.setup :=
  (holdPin_only i periods s).setup
@[simp] theorem State.holdPin_image (i : Fin 2) (periods : Nat) (s : State) : (s.holdPin i periods).image = s.image :=
  (holdPin_only i periods s).image
@[simp] theorem State.holdPin_startup (i : Fin 2) (periods : Nat) (s : State) :
    (s.holdPin i periods).startup = s.startup :=
  (holdPin_only i periods s).startup
@[simp] theorem State.holdPin_iface (i : Fin 2) (periods : Nat) (s : State) : (s.holdPin i periods).iface = s.iface :=
  (holdPin_only i periods s).iface
@[simp] theorem State.holdPin_lanes (i : Fin 2) (periods : Nat) (s : State) : (s.holdPin i periods).lanes = s.lanes :=
  (holdPin_only i periods s).lanes
@[simp] theorem State.holdPin_lastTaken (i : Fin 2) (periods : Nat) (s : State) :
    (s.holdPin i periods).lastTaken = s.lastTaken :=
  (holdPin_only i periods s).lastTaken
@[simp] theorem State.holdPin_measures (i : Fin 2) (periods : Nat) (s : State) :
    (s.holdPin i periods).measures = s.measures :=
  (holdPin_only i periods s).measures
@[simp] theorem State.holdPin_conditions (i : Fin 2) (periods : Nat) (s : State) :
    (s.holdPin i periods).conditions = s.conditions :=
  (holdPin_only i periods s).conditions
@[simp] theorem State.holdPin_timers (i : Fin 2) (periods : Nat) (s : State) :
    (s.holdPin i periods).timers = s.timers :=
  (holdPin_only i periods s).timers
@[simp] theorem State.holdPin_actionLevels (i : Fin 2) (periods : Nat) (s : State) :
    (s.holdPin i periods).actionLevels = s.actionLevels :=
  (holdPin_only i periods s).actionLevels
@[simp] theorem State.holdPin_workPins (i : Fin 2) (periods : Nat) (s : State) :
    (s.holdPin i periods).workPins = s.workPins :=
  (holdPin_only i periods s).workPins
@[simp] theorem State.holdPin_units (i : Fin 2) (periods : Nat) (s : State) : (s.holdPin i periods).units = s.units :=
  (holdPin_only i periods s).units
@[simp] theorem State.holdPin_store (i : Fin 2) (periods : Nat) (s : State) : (s.holdPin i periods).store = s.store :=
  (holdPin_only i periods s).store
@[simp] theorem State.holdPin_link (i : Fin 2) (periods : Nat) (s : State) : (s.holdPin i periods).link = s.link :=
  (holdPin_only i periods s).link
@[simp] theorem State.holdPin_pending (i : Fin 2) (periods : Nat) (s : State) :
    (s.holdPin i periods).pending = s.pending :=
  (holdPin_only i periods s).pending

end Sys2Proof.Machine
end

