-- ==== Sys2Proof/Laws/Captures.lean ====
section
/-! SUPPORT. What a page claim and an arming leave, each in one record. -/

namespace Sys2Proof.Machine

/-- R150, R153: a granted claim: the pages leave the head of the free list (log 12) and the low-water state follows. -/
theorem claim_granted {k : Nat} {s : State} (h : k ≤ s.store.free.length) :
    s.claim k = some (s.store.free.take k,
      { s with
        store := { s.store with
          free := s.store.free.drop k
          low := if s.store.free.length - k < s.setup.store.lowWater then .low else .normal }
        events :=
          if s.engine = .running ∧ s.setup.store.lowWater ≤ s.store.free.length
              ∧ s.store.free.length - k < s.setup.store.lowWater then insertId evStoreLow s.events
          else s.events }) := by
  unfold State.claim lowState
  rw [if_pos h]
  simp only [List.length_drop, Option.some.injEq, Prod.mk.injEq, true_and]
  by_cases c : s.setup.store.lowWater ≤ s.store.free.length ∧ s.store.free.length - k < s.setup.store.lowWater
  · rw [if_pos c]
    cases he : s.engine
    · simp [State.raise]
    · simp [State.raise, c]
  · have c' : ¬ (s.engine = .running ∧ s.setup.store.lowWater ≤ s.store.free.length
        ∧ s.store.free.length - k < s.setup.store.lowWater) := fun x => c x.2
    rw [if_neg c, if_neg c']

/-- R122, R123: an arming by an action, an auto-rearm or a run arms the unit exactly when its ring's pages are free. -/
theorem armUnitBy_armedOrReported (k : Fin 4) (cause : ArmCause) (frame : FrameNumber) (s : State) :
    ArmedOrReported k cause frame s (s.armUnitBy k cause frame) := by
  rintro needed rfl
  refine ⟨fun h => ?_, fun h hn => ?_, fun h hn => ?_⟩
  · unfold State.armUnitBy
    cases hp : s.units[k].phase
    · exact absurd hp h
    all_goals rfl
  · unfold State.armUnitBy State.armOrReport State.tryArm
    rw [h]
    simp only [claim_granted hn]
    rfl
  · unfold State.armUnitBy State.armOrReport State.tryArm
    rw [h]
    simp only [claim_none.2 hn]
    rfl

/-- R141: with auto-rearm the unit arms again at once, or reports. -/
theorem rearm_armedOrReported (k : Fin 4) (f : FrameNumber) (s : State) (h : s.setup.units[k].autoRearm = true) :
    ArmedOrReported k .autoRearm f s (s.rearm k f) := by
  unfold State.rearm
  rw [if_pos h]
  exact armUnitBy_armedOrReported _ _ _ _

/-- R141: without auto-rearm nothing follows the close. -/
theorem rearm_off (k : Fin 4) (f : FrameNumber) (s : State) (h : s.setup.units[k].autoRearm = false) :
    s.rearm k f = s := by
  unfold State.rearm
  rw [if_neg (by rw [h]; decide)]

/-- R119: a frame in the store has one word for each lane of the mask. -/
theorem selectedLanes_length (mask : BitVec 16) (lanes : Vector Lane 16) :
    (selectedLanes mask lanes).length = laneCount mask := by
  unfold selectedLanes laneCount; simp

end Sys2Proof.Machine
end

