-- ==== Sys2Proof/Laws/Codes.lean ====
section
/-! SUPPORT. Each reader of a field accepts exactly the encodings of its values. -/

namespace Sys2Proof.Machine

@[simp] theorem leBytes_length (k n : Nat) : (leBytes k n).length = k := by
  induction k generalizing n with
  | zero => rfl
  | succ k ih => simp [leBytes, ih]

theorem leNat_leBytes (k n : Nat) : leNat (leBytes k n) = n % 256 ^ k := by
  induction k generalizing n with
  | zero => simp [leBytes, leNat, Nat.mod_one]
  | succ k ih =>
    simp only [leBytes, leNat, ih, BitVec.toNat_ofNat]
    have e : 256 ^ (k + 1) = 256 * 256 ^ k := Nat.pow_succ'
    rw [e, Nat.mod_mul]

theorem leBytes_leNat (bs : List Byte) : leBytes bs.length (leNat bs) = bs := by
  induction bs with
  | nil => rfl
  | cons b bs ih =>
    have hb : b.toNat < 256 := b.isLt
    simp only [List.length_cons, leBytes, leNat]
    have h1 : (b.toNat + 256 * leNat bs) / 256 = leNat bs := by omega
    rw [h1, ih]
    congr 1
    apply BitVec.eq_of_toNat_eq
    simp only [BitVec.toNat_ofNat]
    omega

theorem leNat_lt (bs : List Byte) : leNat bs < 256 ^ bs.length := by
  induction bs with
  | nil => simp [leNat]
  | cons b bs ih =>
    have hb : b.toNat < 256 := b.isLt
    simp only [leNat, List.length_cons, Nat.pow_succ]
    omega

/-- A list of `k` bytes is the encoding of exactly the number it gives. -/
theorem eq_leBytes_iff (bs : List Byte) (n : Nat) (h : n < 256 ^ bs.length) : bs = leBytes bs.length n ↔ leNat bs = n := by
  constructor
  · intro e
    have := leNat_leBytes bs.length n
    rw [← e, Nat.mod_eq_of_lt h] at this
    exact this
  · intro e
    rw [← e, leBytes_leNat]

theorem byte_ofNat_iff (b : Byte) (n : Nat) (h : n < 256) : b = BitVec.ofNat 8 n ↔ b.toNat = n := by
  constructor
  · intro e
    rw [e, BitVec.toNat_ofNat]
    exact Nat.mod_eq_of_lt h
  · intro e
    apply BitVec.eq_of_toNat_eq
    rw [BitVec.toNat_ofNat, e]
    exact (Nat.mod_eq_of_lt h).symm

theorem readYesNo_iff (b : Byte) (x : Bool) : readYesNo b = some x ↔ b = yesNo x := by
  unfold readYesNo yesNo bit
  constructor
  · intro h
    split at h
    · cases x <;> simp_all
    · split at h
      · cases x <;> simp_all
      · cases h
  · intro h
    cases x <;> simp [h]

@[simp] theorem readYesNo_yesNo (x : Bool) : readYesNo (yesNo x) = some x := (readYesNo_iff _ _).2 rfl

theorem readIndex_iff (n : Nat) (hn : n ≤ 256) (b : Byte) (i : Fin n) :
    readIndex n b = some i ↔ b = BitVec.ofNat 8 i.val := by
  rw [byte_ofNat_iff _ _ (by omega)]
  unfold readIndex
  split
  · rename_i h
    simp [Fin.ext_iff]
  · rename_i h
    simp
    omega

theorem readIndex_none (n : Nat) (b : Byte) : readIndex n b = none ↔ n ≤ b.toNat := by
  unfold readIndex
  split <;> simp <;> omega

theorem readIndex_ofNat (n : Nat) (hn : n ≤ 256) (i : Fin n) : readIndex n (BitVec.ofNat 8 i.val) = some i :=
  (readIndex_iff n hn _ i).2 rfl

theorem within_iff (lo hi v w : Nat) : within lo hi v = some w ↔ v = w ∧ lo ≤ w ∧ w ≤ hi := by
  unfold within
  split
  · simp; omega
  · simp; omega

theorem readCode_iff {α : Type} [DecidableEq α] (codes : List α) (hn : codes.Nodup) (hl : codes.length ≤ 256)
    (ha : ∀ x, x ∈ codes) (b : Byte) (x : α) : readCode codes b = some x ↔ b = codeOf codes x := by
  have hx : codes.idxOf x < codes.length := List.idxOf_lt_length_iff.2 (ha x)
  unfold readCode codeOf
  rw [byte_ofNat_iff _ _ (by omega)]
  constructor
  · intro h
    obtain ⟨hb, e⟩ := List.getElem?_eq_some_iff.1 h
    rw [← e]
    exact (List.Nodup.idxOf_getElem hn _ hb).symm
  · intro h
    rw [h]
    simp [hx]

theorem readCode_edge (b : Byte) (x : ClockEdge) : readCode ClockEdge.codes b = some x ↔ b = codeOf ClockEdge.codes x :=
  readCode_iff _ (by decide) (by decide) (by intro x; cases x <;> decide) b x
theorem readCode_order (b : Byte) (x : BitOrder) : readCode BitOrder.codes b = some x ↔ b = codeOf BitOrder.codes x :=
  readCode_iff _ (by decide) (by decide) (by intro x; cases x <;> decide) b x
theorem readCode_source (b : Byte) (x : ClockSource) : readCode ClockSource.codes b = some x ↔ b = codeOf ClockSource.codes x :=
  readCode_iff _ (by decide) (by decide) (by intro x; cases x <;> decide) b x
theorem readCode_kind (b : Byte) (x : MeasureKind) : readCode MeasureKind.codes b = some x ↔ b = codeOf MeasureKind.codes x :=
  readCode_iff _ (by decide) (by decide) (by intro x; cases x <;> decide) b x
theorem readCode_test (b : Byte) (x : Test) : readCode Test.codes b = some x ↔ b = codeOf Test.codes x :=
  readCode_iff _ (by decide) (by decide) (by intro x; cases x <;> decide) b x
theorem readCode_mode (b : Byte) (x : TimerMode) : readCode TimerMode.codes b = some x ↔ b = codeOf TimerMode.codes x :=
  readCode_iff _ (by decide) (by decide) (by intro x; cases x <;> decide) b x
theorem readCode_direction (b : Byte) (x : Direction) : readCode Direction.codes b = some x ↔ b = codeOf Direction.codes x :=
  readCode_iff _ (by decide) (by decide) (by intro x; cases x <;> decide) b x
theorem readCode_action (b : Byte) (x : Action) : readCode Action.codes b = some x ↔ b = codeOf Action.codes x :=
  readCode_iff _ (by decide) (by decide) (by intro x; cases x <;> decide) b x
theorem readCode_guard (b : Byte) (x : GuardKind) : readCode GuardKind.codes b = some x ↔ b = codeOf GuardKind.codes x :=
  readCode_iff _ (by decide) (by decide) (by intro x; cases x <;> decide) b x
theorem readCode_lineMode (b : Byte) (x : LineMode) : readCode LineMode.codes b = some x ↔ b = codeOf LineMode.codes x :=
  readCode_iff _ (by decide) (by decide) (by intro x; cases x <;> decide) b x
theorem readCode_polarity (b : Byte) (x : Polarity) : readCode Polarity.codes b = some x ↔ b = codeOf Polarity.codes x :=
  readCode_iff _ (by decide) (by decide) (by intro x; cases x <;> decide) b x
theorem readCode_retrigger (b : Byte) (x : Retrigger) : readCode Retrigger.codes b = some x ↔ b = codeOf Retrigger.codes x :=
  readCode_iff _ (by decide) (by decide) (by intro x; cases x <;> decide) b x
theorem readCode_full (b : Byte) (x : FullPolicy) : readCode FullPolicy.codes b = some x ↔ b = codeOf FullPolicy.codes x :=
  readCode_iff _ (by decide) (by decide) (by intro x; cases x <;> decide) b x
theorem readCode_policy (b : Byte) (x : IndexPolicy) : readCode IndexPolicy.codes b = some x ↔ b = codeOf IndexPolicy.codes x :=
  readCode_iff _ (by decide) (by decide) (by intro x; cases x <;> decide) b x

theorem readPitch_iff (b : Byte) (x : SlotPitch) : readPitch b = some x ↔ b = BitVec.ofNat 8 x.bits := by
  unfold readPitch
  cases x <;> simp only [SlotPitch.bits]
  all_goals
    constructor
    · intro h
      repeat' split at h
      all_goals simp_all
    · intro h
      simp [h]

theorem readWidth_iff (b : Byte) (x : SampleWidth) : readWidth b = some x ↔ b = BitVec.ofNat 8 x.bits := by
  unfold readWidth
  cases x <;> simp only [SampleWidth.bits]
  all_goals
    constructor
    · intro h
      repeat' split at h
      all_goals simp_all
    · intro h
      simp [h]

end Sys2Proof.Machine
end

