-- ==== Sys2Proof/Laws/Flags.lean ====
section
/-! SUPPORT. The bits of a word made from Booleans, and the number that a list of bytes gives. -/

namespace Sys2Proof.Machine

theorem wordOf_testBit (bs : List Bool) (i : Nat) : (wordOf bs).testBit i = bs.getD i false := by
  induction bs generalizing i with
  | nil => simp [wordOf]
  | cons b bs ih =>
    have e : wordOf (b :: bs) = 2 * wordOf bs + bit b := by simp [wordOf, Nat.add_comm]
    rw [e]
    cases i with
    | zero => cases b <;> simp [bit]
    | succ i =>
      rw [Nat.testBit_succ]
      have : (2 * wordOf bs + bit b) / 2 = wordOf bs := by
        cases b <;> simp [bit]
        omega
      rw [this, ih]
      simp

theorem wordOf_lt (bs : List Bool) : wordOf bs < 2 ^ bs.length := by
  induction bs with
  | nil => simp [wordOf]
  | cons b bs ih =>
    simp only [wordOf, List.length_cons, Nat.pow_succ]
    have : bit b ≤ 1 := by cases b <;> simp [bit]
    omega

end Sys2Proof.Machine
end

