-- ==== Sys2Proof/Laws/Memory.lean ====
section
/-! SUPPORT. The words of the capture store: what a read gives after a write, and that every write keeps the canonical form. -/

namespace Sys2Proof.Machine

theorem Memory.wf_cons {a : Nat} {v : Lane} {m : Memory} (h : Memory.wf ((a, v) :: m) = true) :
    v ≠ Config.unlistedWord ∧ (∀ c ∈ m, a < c.1) ∧ Memory.wf m = true := by
  simpa [Memory.wf, List.all_eq_true, and_assoc] using h

theorem Memory.wf_cons_iff {a : Nat} {v : Lane} {m : Memory} :
    Memory.wf ((a, v) :: m) = true ↔ v ≠ Config.unlistedWord ∧ (∀ c ∈ m, a < c.1) ∧ Memory.wf m = true := by
  simp [Memory.wf, List.all_eq_true, and_assoc]

/-- An address below every entry reads as the unlisted word. -/
theorem Memory.read_below (m : Memory) (a : Nat) (h : ∀ c ∈ m, a < c.1) : Memory.read m a = Config.unlistedWord := by
  induction m with
  | nil => rfl
  | cons c m ih =>
    have hc : a < c.1 := h c (by simp)
    have hne : a ≠ c.1 := Nat.ne_of_lt hc
    show (if a = c.1 then c.2 else Memory.read m a) = _
    rw [if_neg hne]
    exact ih fun d hd => h d (by simp [hd])

/-- Every entry after a write is an old one or the one written. -/
theorem Memory.mem_write (m : Memory) (a : Nat) (v : Lane) (c : Nat × Lane) (h : c ∈ Memory.write m a v) :
    c ∈ m ∨ c = (a, v) := by
  induction m with
  | nil => simp only [Memory.write] at h; split at h <;> simp_all
  | cons d m ih =>
    simp only [Memory.write] at h
    repeat' split at h
    all_goals simp only [List.mem_cons] at h ⊢
    all_goals rcases h with h | h
    all_goals tauto

theorem Memory.write_wf (m : Memory) (a : Nat) (v : Lane) (h : Memory.wf m = true) : Memory.wf (Memory.write m a v) = true := by
  induction m with
  | nil =>
    simp only [Memory.write]
    split
    · rfl
    · simp_all [Memory.wf]
  | cons d m ih =>
    obtain ⟨b, w⟩ := d
    obtain ⟨hw, hb, hm⟩ := Memory.wf_cons h
    simp only [Memory.write]
    split
    · rename_i hab
      split
      · exact h
      · rename_i hv
        refine Memory.wf_cons_iff.2 ⟨hv, ?_, h⟩
        intro c hc
        rcases List.mem_cons.1 hc with hc | hc
        · subst hc; exact hab
        · exact Nat.lt_trans hab (hb c hc)
    · rename_i hab
      split
      · rename_i e
        subst e
        split
        · exact hm
        · rename_i hv
          exact Memory.wf_cons_iff.2 ⟨hv, hb, hm⟩
      · rename_i hne
        refine Memory.wf_cons_iff.2 ⟨hw, ?_, ih hm⟩
        intro c hc
        rcases Memory.mem_write m a v c hc with hc | hc
        · exact hb c hc
        · subst hc
          show b < a
          omega

/-- A write is read back at its address, and every other address reads as before. -/
theorem Memory.read_write (m : Memory) (a : Nat) (v : Lane) (x : Nat) (h : Memory.wf m = true) :
    Memory.read (Memory.write m a v) x = if x = a then v else Memory.read m x := by
  induction m with
  | nil =>
    simp only [Memory.write]
    split
    · rename_i hv
      simp only [Memory.read]
      split
      · exact hv.symm
      · rfl
    · simp only [Memory.read]
  | cons d m ih =>
    obtain ⟨b, w⟩ := d
    obtain ⟨hw, hb, hm⟩ := Memory.wf_cons h
    have low : ∀ y, y < b → Memory.read ((b, w) :: m) y = Config.unlistedWord := fun y hy =>
      Memory.read_below _ y fun c hc => by
        rcases List.mem_cons.1 hc with hc | hc
        · subst hc; exact hy
        · exact Nat.lt_trans hy (hb c hc)
    simp only [Memory.write]
    split
    · rename_i hab
      split
      · rename_i hv
        by_cases e : x = a
        · subst e
          rw [if_pos rfl, low x hab, hv]
        · rw [if_neg e]
      · simp only [Memory.read]
    · rename_i hab
      split
      · rename_i e
        subst e
        split
        · rename_i hv
          by_cases e : x = a
          · subst e
            rw [if_pos rfl, Memory.read_below m x hb, hv]
          · rw [if_neg e]
            simp only [Memory.read, if_neg e]
        · simp only [Memory.read]
          by_cases e : x = a <;> simp [e]
      · rename_i hne
        simp only [Memory.read]
        rw [ih hm]
        by_cases e : x = b
        · simp [e]
          intro k
          exact absurd k.symm hne
        · simp [e]

theorem Memory.writeAll_wf (m : Memory) (a : Nat) (vs : List Lane) (h : Memory.wf m = true) :
    Memory.wf (Memory.writeAll m a vs) = true := by
  induction vs generalizing m a with
  | nil => exact h
  | cons v vs ih => exact ih _ _ (Memory.write_wf m a v h)

/-- What a read gives after several words are written from `a`. -/
theorem Memory.read_writeAll (m : Memory) (a : Nat) (vs : List Lane) (x : Nat) (h : Memory.wf m = true) :
    Memory.read (Memory.writeAll m a vs) x =
      if a ≤ x ∧ x < a + vs.length then vs.getD (x - a) Config.unlistedWord else Memory.read m x := by
  induction vs generalizing m a with
  | nil =>
    simp only [Memory.writeAll, List.length_nil, Nat.add_zero]
    rw [if_neg (by omega)]
  | cons v vs ih =>
    simp only [Memory.writeAll]
    rw [ih _ _ (Memory.write_wf m a v h), Memory.read_write m a v x h]
    by_cases e : x = a
    · subst e
      have h1 : ¬ (x + 1 ≤ x ∧ x < x + 1 + vs.length) := by omega
      have h2 : x ≤ x ∧ x < x + (v :: vs).length := by simp
      rw [if_neg h1, if_pos rfl, if_pos h2]
      simp
    · rw [if_neg e]
      by_cases k : a + 1 ≤ x ∧ x < a + 1 + vs.length
      · have h2 : a ≤ x ∧ x < a + (v :: vs).length := by simp only [List.length_cons]; omega
        rw [if_pos k, if_pos h2]
        have : x - a = (x - (a + 1)) + 1 := by omega
        rw [this, List.getD_cons_succ]
      · have h2 : ¬ (a ≤ x ∧ x < a + (v :: vs).length) := by simp only [List.length_cons]; omega
        rw [if_neg k, if_neg h2]

/-- Addresses outside the words written read as before. -/
theorem Memory.read_writeAll_outside (m : Memory) (a : Nat) (vs : List Lane) (x : Nat) (h : Memory.wf m = true)
    (o : ¬ (a ≤ x ∧ x < a + vs.length)) : Memory.read (Memory.writeAll m a vs) x = Memory.read m x := by
  rw [Memory.read_writeAll m a vs x h, if_neg o]

@[simp] theorem Memory.readAll_length (m : Memory) (a n : Nat) : (Memory.readAll m a n).length = n := by
  induction n generalizing a with
  | zero => rfl
  | succ n ih => simp [Memory.readAll, ih]

theorem Memory.readAll_get (m : Memory) (a n i : Nat) (h : i < n) :
    (Memory.readAll m a n)[i]? = some (Memory.read m (a + i)) := by
  induction n generalizing a i with
  | zero => omega
  | succ n ih =>
    cases i with
    | zero => simp [Memory.readAll]
    | succ i =>
      simp only [Memory.readAll, List.getElem?_cons_succ]
      rw [ih (a + 1) i (by omega)]
      congr 2
      omega

/-- The words written are read back in order. -/
theorem Memory.readAll_writeAll (m : Memory) (a : Nat) (vs : List Lane) (h : Memory.wf m = true) :
    Memory.readAll (Memory.writeAll m a vs) a vs.length = vs := by
  apply List.ext_getElem?
  intro i
  by_cases k : i < vs.length
  · rw [Memory.readAll_get _ _ _ _ k, Memory.read_writeAll m a vs _ h, if_pos (by omega)]
    simp [k]
  · rw [List.getElem?_eq_none (by simp; omega), List.getElem?_eq_none (by omega)]

/-- Words written elsewhere leave a run of words alone. -/
theorem Memory.readAll_writeAll_apart (m : Memory) (a : Nat) (vs : List Lane) (x n : Nat) (h : Memory.wf m = true)
    (apart : x + n ≤ a ∨ a + vs.length ≤ x) : Memory.readAll (Memory.writeAll m a vs) x n = Memory.readAll m x n := by
  induction n generalizing x with
  | zero => rfl
  | succ n ih =>
    simp only [Memory.readAll]
    rw [Memory.read_writeAll_outside m a vs x h (by omega), ih (x + 1) (by omega)]

end Sys2Proof.Machine
end

