-- ==== Sys2Proof/Laws/Take.lean ====
section
/-! SUPPORT. The work of a taken frame in its stages, and which action of a delivery wins at a target. -/

namespace Sys2Proof.Machine

/-! ### Precedence (R95) -/

theorem reaches_iff (s : State) (fired : List (Fin 48)) (a : Action) (t : Nat) :
    reaches s.setup.bindings fired a t = true ↔ Reaches s fired a t := by
  unfold reaches Reaches
  simp

theorem reaches_false (s : State) (fired : List (Fin 48)) (a : Action) (t : Nat) (h : ¬ Reaches s fired a t) :
    reaches s.setup.bindings fired a t = false := by
  rw [← reaches_iff] at h; simpa using h

/-- The action of highest precedence that reached the target wins. -/
theorem winner_first (s : State) (fired : List (Fin 48)) (a b c : Action) (t : Nat) (h : Reaches s fired a t) :
    winner s.setup.bindings fired [a, b, c] t = some a := by
  unfold winner
  simp [(reaches_iff s fired a t).2 h]

theorem winner_second (s : State) (fired : List (Fin 48)) (a b c : Action) (t : Nat) (h₁ : ¬ Reaches s fired a t)
    (h : Reaches s fired b t) : winner s.setup.bindings fired [a, b, c] t = some b := by
  unfold winner
  simp [(reaches_iff s fired b t).2 h, reaches_false s fired a t h₁]

theorem winner_third (s : State) (fired : List (Fin 48)) (a b c : Action) (t : Nat) (h₁ : ¬ Reaches s fired a t)
    (h₂ : ¬ Reaches s fired b t) (h : Reaches s fired c t) : winner s.setup.bindings fired [a, b, c] t = some c := by
  unfold winner
  simp [(reaches_iff s fired c t).2 h, reaches_false s fired a t h₁, reaches_false s fired b t h₂]

theorem winner_none (s : State) (fired : List (Fin 48)) (a b c : Action) (t : Nat) (h₁ : ¬ Reaches s fired a t)
    (h₂ : ¬ Reaches s fired b t) (h₃ : ¬ Reaches s fired c t) : winner s.setup.bindings fired [a, b, c] t = none := by
  unfold winner
  simp [reaches_false s fired a t h₁, reaches_false s fired b t h₂, reaches_false s fired c t h₃]

/-- R94: the fired bindings stand in binding-number order. -/
theorem firedBindings_rising (bs : Vector Binding 48) (delivered : List EventId) (cs : Vector ConditionState 32) :
    (firedBindings bs delivered cs).Pairwise (fun a b => a < b) := by
  unfold firedBindings
  exact List.Pairwise.filter _ (List.pairwise_lt_finRange 48)

/-! ### The stages of a take (R16, R27, R49, R87, R96) -/

/-- R49: the conditions as the evaluation of frame `f` leaves them. -/
theorem evaluate_conditions (s : State) (f : HeldFrame) :
    (((s.beginTake f).updateMeasures).evaluate).conditions = s.conditionsAt f := rfl

/-- The work of a frame: the conditions' and the outputs' actions on the evaluated state, then the interleaved rest. -/
theorem workFrame_stages (s : State) (f : HeldFrame) (during : List StreamEvent) :
    s.workFrame f during =
      State.interleave (s.firedAt f) f.number (conditionWord (s.conditionsAt f)) during (List.finRange 4)
        (notifying s.setup.bindings (s.firedAt f)) (List.finRange 4)
        ((List.finRange 4).foldl (fun a o => a.lineAction (s.firedAt f) o)
          ((List.finRange 32).foldl (fun a c => a.conditionAction (s.firedAt f) c)
            ((s.beginTake f).updateMeasures).evaluate)) := rfl

/-- With nothing spelled in `during`: the timers' actions, the EVENT notices in binding order, the units' work in unit order. -/
theorem interleave_nil (fired : List (Fin 48)) (frame : FrameNumber) (word : BitVec 32) (ts : List (Fin 4))
    (ns : List (Fin 48)) (us : List (Fin 4)) (s : State) :
    s.interleave fired frame word [] ts ns us =
      us.foldl (State.unitWork fired frame word)
        (ns.foldl (State.offerEvent frame word) (ts.foldl (fun a t => a.timerAction fired t) s)) := rfl

/-- R16: a take of a held frame while RUNNING is the work of that frame. -/
theorem execTake_held (during : List StreamEvent) (s : State) (f : HeldFrame) (he : s.engine = .running)
    (hh : s.iface.holding = some f) : execTake during s = .next (s.workFrame f during) := by
  unfold execTake
  rw [he, hh]

end Sys2Proof.Machine
end

