-- ==== Sys2Proof/Tests/Slice0.lean ====
section
/-! SUPPORT. The model's own tests: the checks of well-formed commands, the spec's worked figures, one small step for each command, and for each statement with hypotheses a state and operands that meet them. -/

namespace Sys2Proof.Tests

open Sys2Proof Sys2Proof.Machine

set_option Elab.async false

/-! ### Small states -/

/-- The next state, when there is one. -/
def after : Host.Outcome State Fault Refusal → Option State
  | .next t => some t
  | .fault _ => none
  | .refused _ => none

/-- A part whose start-up is over, STOPPED with the defaults. -/
def up : State := { State.reset with startup := none }

/-- One 16-bit slot. -/
def port1 : PortSetup := ⟨true, 1, .p16, .w16, .msbFirst, false, .rising⟩

/-- STOPPED with a setup that passes the RUN checks. -/
def ready : State := { up with setup := { up.setup with portA := port1 } }

/-- RUNNING in FOLLOWER clocking, a frame in progress. -/
def live : State :=
  { ready with
    engine := .running, runNumber := 1
    iface := { ready.iface with state := .receiving, fsyLow := true, syncTimer := some 0 } }

/-- RUNNING with the frame number `n` in the holding stage, its one slot at `v`. -/
def holds (n : FrameNumber) (v : Lane) (s : State) : State :=
  { s with iface := { s.iface with holding := some ⟨n, [v], []⟩, frameNumber := n } }

/-- A state whose dispatcher has begun a request of kind `kind`, tag 7. -/
def asks (kind : Byte) (payload : List Byte) (s : State) : State :=
  { s with
    startup := none
    link := { s.link with requests := [⟨kind, 7, payload⟩], dispatcher := .executing .begun } }

/-- The newest reply that a command leaves, with its kind. -/
def reply (c : Instr) (s : State) : Option (Byte × Status × List Byte) :=
  (after (exec c s)).bind fun t => t.link.replies.getLast?.map fun r => (r.kind, r.status, r.data)

/-- An SA sampling edge with FSY high and SDA high. -/
def fsyEdge : SckEdge := ⟨.rising, true, true, false⟩

/-- An edge with FSY low. -/
def dataEdge (e : ClockEdge) (bit : Bool) : SckEdge := ⟨e, false, bit, false⟩

/-- A dispatcher that has begun a request may carry it out. -/
theorem serves_asks (kind : Byte) (payload : List Byte) (s : State) : Serves (asks kind payload s) kind payload :=
  ⟨7, rfl⟩

/-! ### Well-formed commands: an ill-formed one for each check -/

theorem test_wf_edges_first : Instr.wellFormed (.firstSyncEdge [fsyEdge, fsyEdge]) = false := by decide
theorem test_wf_edges_boundary : Instr.wellFormed (.frameBoundary [fsyEdge, fsyEdge]) = false := by decide
theorem test_wf_edges_expire : Instr.wellFormed (.timerExpire 3 [dataEdge .falling true, dataEdge .falling true]) = false := by
  decide
theorem test_wf_edges_regained : Instr.wellFormed (.syncRegained [fsyEdge, fsyEdge]) = false := by decide
theorem test_wf_edges_take : Instr.wellFormed (.take [.edge fsyEdge, .quiet 4, .edge fsyEdge]) = false := by decide
theorem test_wf_no_byte : Instr.wellFormed (.messageReceived []) = false := by decide
theorem test_wf_good_stop_bit : Instr.wellFormed (.stopBitError (goodByte 0)) = false := by decide
theorem test_wf_alternating : Instr.wellFormed (.frameBoundary [fsyEdge, dataEdge .falling false, fsyEdge]) = true := by decide

/-! ### The spec's worked figures -/

/-- The check over the nine bytes "123456789", the usual figure for this remainder. -/
theorem test_check_figure : check [0x31, 0x32, 0x33, 0x34, 0x35, 0x36, 0x37, 0x38, 0x39] = 0x29B1#16 := by decide +kernel

/-- Section 2.2: DIFF and MAG at the bounds. -/
theorem test_diff_mag :
    frameOutput .diff (BitVec.ofInt 24 8000000) (BitVec.ofInt 24 (-1000000)) = BitVec.ofInt 24 8388607
    ∧ frameOutput .diff (BitVec.ofInt 24 (-6000000)) (BitVec.ofInt 24 3000000) = BitVec.ofInt 24 (-8388608)
    ∧ frameOutput .mag (BitVec.ofInt 24 (-8388608)) 0 = BitVec.ofInt 24 8388607
    ∧ frameOutput .mag (BitVec.ofInt 24 (-8388607)) 0 = BitVec.ofInt 24 8388607 := by decide +kernel

/-- Section 2.4: the means 126.75 and -3.75 are truncated toward zero. -/
theorem test_mean_truncates :
    (windowOutput .mean 0 0 507 4).toInt = 126 ∧ (windowOutput .mean 0 0 (-15) 4).toInt = -3 := by decide +kernel

/-- Section 2.4: the shifted products of 15 and -15, and of half full scale. -/
theorem test_meanprod_shifts :
    windowTerm .meanprod 3 5 = 0 ∧ windowTerm .meanprod (BitVec.ofInt 24 (-3)) 5 = -1
    ∧ windowTerm .meanprod (BitVec.ofInt 24 (-4194304)) (BitVec.ofInt 24 (-4194304)) = 2097152
    ∧ (windowOutput .meanprod 0 0 (-1) 2).toInt = 0 := by decide +kernel

/-- Section 1.2: 0x7FFFFF of 24 bits, and 0xFF38 of 16 bits. -/
theorem test_samples :
    (sampleValue ⟨true, 4, .p32, .w24, .msbFirst, false, .rising⟩ (false :: List.replicate 23 true)).toInt = 8388607
    ∧ (sampleValue ⟨true, 6, .p16, .w16, .msbFirst, true, .falling⟩
        (List.replicate 8 true ++ [false, false, true, true, true, false, false, false])).toInt = -51200 := by
  decide +kernel

/-- A record with an id and one page. -/
def recordOf (id : CaptureId) (held : Bool) (pg : Page) : CaptureRecord :=
  { id := id, unit := 1, run := 1, mask := 1, firstFrame := 1, triggerFrame := 1, preCount := 0, postCount := 1
    flags := noFlags, triggerSource := 4, triggerWord := 16, extensions := 0, extraTriggers := 0, gaps := []
    held := held, pages := [pg], ringHead := 0, pre := 0 }

/-- Section 8.2: the ids given when 65,535 and 1 are in the index. -/
theorem test_ids_skip_the_index :
    Store.assigned { resetStore with index := [recordOf 65535 false 0, recordOf 1 false 1], nextId := 65534 } = 65534
    ∧ Store.assigned { resetStore with index := [recordOf 65535 false 0, recordOf 1 false 1], nextId := 65535 } = 2 := by
  decide +kernel

/-- Section 7.6: the ring head at 100 of 200, 200 frames: offset 0 is place 100, offset 100 is place 0. -/
theorem test_ring_places :
    CaptureRecord.ringPlace { recordOf 1 false 0 with preCount := 200, pre := 200, ringHead := 100 } 0 = 100
    ∧ CaptureRecord.ringPlace { recordOf 1 false 0 with preCount := 200, pre := 200, ringHead := 100 } 99 = 199
    ∧ CaptureRecord.ringPlace { recordOf 1 false 0 with preCount := 200, pre := 200, ringHead := 100 } 100 = 0 := by
  decide

/-- Section 8.4: READ_FRAMES of capture 37: 26 frames fit, and 10 are left from offset 440. -/
theorem test_read_counts :
    readCount { recordOf 37 false 0 with mask := 0x209, preCount := 150, postCount := 300 } 140 0 = 26
    ∧ readCount { recordOf 37 false 0 with mask := 0x209, preCount := 150, postCount := 300 } 440 0 = 10
    ∧ CaptureRecord.locate { recordOf 37 false 0 with mask := 0x209, preCount := 150, postCount := 300, pre := 200, ringHead := 150 } 395 =
        (3, 75) := by
  decide +kernel

/-- Section 3.6: the evaluations of C5 at frames 6, 7, 8 and 12. -/
theorem test_hysteresis :
    let u : ConditionSetup := ⟨1, .above, 1000000, 0, 200000, 3, 2, false, true⟩
    let m (v : Int) : MeasureState := { clearedMeasure with output := BitVec.ofInt 24 v, fresh := true }
    evalCondition u (m 1300000) ⟨.watching, 1, 0⟩ = ⟨.watching, 2, 0⟩
    ∧ evalCondition u (m 1010000) ⟨.watching, 2, 0⟩ = ⟨.asserted, 0, 1⟩
    ∧ evalCondition u (m 900000) ⟨.asserted, 0, 1⟩ = ⟨.asserted, 0, 1⟩
    ∧ evalCondition u (m 800000) ⟨.asserted, 0, 1⟩ = ⟨.asserted, 1, 1⟩ := by decide +kernel

/-! ### The cascade of section 5.6, frame 120 -/

/-- The setup of the cascade, with its lane on slot 1 of SA. -/
def cascadeSetup : Setup :=
  { defaultSetup with
    portA := { port1 with slots := 2 }
    measures := put defaultSetup.measures 2 ⟨true, .copy, 1, 0, 1⟩
    conditions := put defaultSetup.conditions 2 ⟨2, .above, 500000, 0, 0, 1, 1, false, true⟩
    units := put defaultSetup.units 0 ⟨2, 0, 2, .ignore, .truncate, false, true⟩
    bindings :=
      put (put (put (put (put (put (put (put defaultSetup.bindings 0 ⟨true, 2, .unitTrigger, 0, .always, 0⟩)
        1 ⟨true, 2, .condDisarm, 2, .always, 0⟩) 2 ⟨true, 2, .lineSet, 1, .whenNotAsserted, 9⟩)
        3 ⟨true, 34, .lineClear, 1, .always, 0⟩) 4 ⟨true, 68, .notify, 0, .always, 0⟩)
        5 ⟨true, 34, .condArm, 2, .always, 0⟩) 6 ⟨true, 72, .unitArm, 0, .always, 0⟩)
        7 ⟨true, 2, .notify, 0, .always, 0⟩ }

/-- After frame 119, with frame 120 in the stage. -/
def cascade : State :=
  { live with
    runNumber := 3
    setup := cascadeSetup
    conditions := put up.conditions 2 ⟨.watching, 0, 0⟩
    units := put up.units 0 { clearedUnit with phase := .armed }
    lastTaken := some 119
    iface := { live.iface with holding := some ⟨120, [0, 620000], []⟩, frameNumber := 120 } }

/-- What frame 120 leaves: C2 DISARMED once asserted, K0 in POST with one frame in page 0, OUT1 high, {34, 68} pending, one EVENT. -/
theorem test_cascade_frame_120 :
    (after (exec (.take []) cascade)).map (fun t => t.link.notices) = some [.event 7 2 3 120 4]
    ∧ (after (exec (.take []) cascade)).map (fun t => (t.conditions[2], t.actionLevels[1], t.events)) =
      some (⟨.disarmed, 0, 1⟩, true, [34, 68]) := by decide +kernel

theorem test_cascade_capture_120 :
    (after (exec (.take []) cascade)).map (fun t => (t.units[0].phase, t.units[0].remaining, t.units[0].triggerWord)) =
      some (.post, 1, 4)
    ∧ (after (exec (.take []) cascade)).map (fun t => t.store.mem) = some [(0, 620000)] := by decide +kernel

/-! ### One step of each command -/

theorem test_hard_reset :
    (after (exec (.hardReset .pin ⟨true, false, true, false⟩) live)).map (fun t =>
      (t.engine, t.startup, t.link.rate, t.inputs[0].filtered)) = some (.stopped, some .pin, .r921600, true) := by
  decide +kernel

theorem test_startup_setup_read :
    (after (exec .startupSetupRead State.reset)).map (fun t => (t.startup, t.link.notices)) =
      some (none, [.ready .power .defaultsEmpty 0 .off 0]) := by decide +kernel

theorem test_message_received :
    (after (exec (.messageReceived ((wire 0x1F 9 [3]).map goodByte)) up)).map (fun t => (t.link.requests, t.link.dispatcher)) =
      some ([⟨0x1F, 9, [3]⟩], .executing .begun) := by decide +kernel

/-- A message with its last byte changed is a check error. -/
theorem test_message_check_error :
    (after (exec (.messageReceived (([0xC3, 2, 1, 1, 0, 0] : List Byte).map goodByte)) up)).map (fun t =>
      (t.link.requests, t.link.checkErrors)) = some ([], 1) := by decide +kernel

/-- Half a message on the line. -/
def halfway : State := { up with link := { up.link with receiver := ⟨.length, false, 0⟩ } }

theorem test_receive_timeout :
    (after (exec (.receiveTimeout 245761) halfway)).map (fun t => (t.link.receiver.state, t.link.timeouts)) = some (.hunt, 1)
    ∧ (after (exec (.receiveTimeout 245760) halfway)).map (fun t => (t.link.receiver.state, t.link.timeouts)) =
        some (.length, 0) := by decide +kernel

/-- A byte with a stop-bit error in HUNT, and in the middle of a message, which it discards. -/
theorem test_stop_bit_error :
    (after (exec (.stopBitError ⟨true, byteBits 0xC3, false⟩) up)).map (fun t =>
      (t.link.receiver.state, t.link.receiver.awaitHigh, t.link.framingErrors)) = some (.hunt, true, 1)
    ∧ (after (exec (.stopBitError ⟨true, byteBits 0x55, false⟩)
        { up with link := { up.link with receiver := ⟨.body 4 [1, 9], false, 100⟩ } })).map (fun t =>
      (t.link.receiver, t.link.framingErrors)) = some (⟨.hunt, true, 0⟩, 1) := by decide +kernel

/-- R171: the start byte 0xC3 on LTX, bit time by bit time; LTX rests high. -/
theorem test_ltx :
    byteFrame 0xC3 = [false, true, true, false, false, false, false, true, true, true]
    ∧ Transmitter.levels (.sendingReply [0xC3]) = byteFrame 0xC3 ∧ up.ltx 0 = true := by decide +kernel

theorem test_unknown_kind : reply .unknownKind (asks 0x0A [1, 2] up) = some (0x8A, .unknownKind, []) := by decide +kernel

/-- Four replies wait and a fifth is held. -/
def holding : State :=
  let r : Reply := ⟨0x81, 1, .ok, []⟩
  let s := asks 0x01 [] up
  { s with link := { s.link with replies := [r, r, r, r], transmitter := .sendingReply r.wire, dispatcher := .executing (.holding r) } }

theorem test_reply_held :
    (after (exec .replyPlaced holding)).map (fun t => t.link.replies.length) = some 4
    ∧ ((after (exec .transmitComplete holding)).bind fun t => after (exec .replyPlaced t)).map (fun t =>
        (t.link.replies.length, t.link.requests, t.link.dispatcher)) = some (4, [], .idle) := by decide +kernel

theorem test_transmit_complete :
    (after (exec .transmitComplete holding)).map (fun t => (t.link.replies.length, t.link.transmitter)) =
      some (3, .sendingReply (Reply.wire ⟨0x81, 1, .ok, []⟩)) := by decide +kernel

theorem test_identify :
    reply .identify (asks 0x01 [] up) =
      some (0x81, .ok, [0x54, 0x4D, 0x16, 0x04, 1, 16, 16, 32, 48, 4, 4, 0, 1, 0, 2, 32]) := by decide +kernel

theorem test_status_is_41_bytes : (reply .status (asks 0x02 [0] live)).map (fun r => r.2.2.length) = some 41 := by decide +kernel

theorem test_run :
    reply .run (asks 0x03 [] ready) = some (0x83, .ok, [1, 0])
    ∧ reply .run (asks 0x03 [] up) = some (0x83, .setupConflict, [0, 0]) := by decide +kernel

theorem test_stop :
    (after (exec .stop (asks 0x04 [] (holds 2 5 live)))).map (fun t => (t.engine, t.iface.state, t.iface.holding)) =
      some (.stopped, .off, none)
    ∧ reply .stop (asks 0x04 [] (holds 2 5 live)) = some (0x84, .ok, [2, 0, 0, 0, 0]) := by decide +kernel

theorem test_restart :
    (after (exec .restart (asks 0x05 [] live))).map (fun t => (t.engine, t.link.replies, t.link.dispatcher)) =
      some (.stopped, [⟨0x85, 7, .ok, []⟩], .executing .restarting) := by decide +kernel

/-- The image of a part set to run by itself. -/
def savedImage : SetupImage := ⟨.valid, 41, { ready.setup with autoRun := true }⟩

/-- A restart whose image read is under way. -/
def restarting (image : SetupImage) : State :=
  let s := asks 0x05 [] up
  { s with image := image, link := { s.link with dispatcher := .executing .restarting } }

theorem test_restart_setup_read :
    (after (exec .restartSetupRead (restarting savedImage))).map (fun t => (t.engine, t.runNumber, t.link.requests, t.link.notices)) =
      some (.running, 1, [], [.ready .restart .stored 41 .started 1]) := by decide +kernel

theorem test_save_setup :
    (after (exec .saveSetup (asks 0x06 [] ready))).map (fun t => (t.image.state, t.link.dispatcher)) =
      some (.invalid, .waiting (.saving ready.setup)) := by decide +kernel

/-- A save whose write is under way. -/
def saving : State :=
  let s := asks 0x06 [] up
  { s with image := { savedImage with state := .invalid }, link := { s.link with dispatcher := .waiting (.saving ready.setup) } }

theorem test_save_complete :
    reply (.saveComplete true) saving = some (0x86, .ok, [42, 0, 0, 0])
    ∧ reply (.saveComplete false) saving = some (0x86, .storeFailed, []) := by decide +kernel

theorem test_load_setup :
    (after (exec .loadSetup (asks 0x07 [] up))).map (fun t => t.link.dispatcher) = some (.waiting .loading) := by decide +kernel

/-- A load whose image read is under way. -/
def loading (image : SetupImage) : State :=
  let s := asks 0x07 [] up
  { s with image := image, link := { s.link with dispatcher := .waiting .loading } }

theorem test_load_complete :
    reply .loadComplete (loading savedImage) = some (0x87, .ok, [41, 0, 0, 0])
    ∧ reply .loadComplete (loading blankImage) = some (0x87, .storeFailed, []) := by decide +kernel

theorem test_default_setup :
    (after (exec .defaultSetup (asks 0x08 [] ready))).map (fun t => t.setup) = some defaultSetup := by decide +kernel

theorem test_set_autorun : reply .setAutorun (asks 0x09 [1] live) = some (0x89, .ok, [1]) := by decide +kernel

/-- Section 1.2: SA needs 129 bits of a frame of 128 with frame delay 1, and 128 without. -/
theorem test_set_port :
    let s := { up with setup := { up.setup with interface := ⟨.provider, 4, 128, 10⟩ } }
    reply .setPort (asks 0x10 [0, 1, 4, 32, 24, 0, 1, 0] s) = some (0x90, .setupConflict, [])
    ∧ reply .setPort (asks 0x10 [0, 1, 4, 32, 24, 0, 0, 0] s) = some (0x90, .ok, []) := by decide +kernel

theorem test_get_port :
    reply .getPort (asks 0x11 [0] live) =
      some (0x91, .ok, [1, 1, 16, 16, 0, 0, 0, 2, 0, 0, 0, 0, 0, 0, 0, 0, 0, 0, 0, 0]) := by decide +kernel

theorem test_set_measure :
    (after (exec .setMeasure (asks 0x12 [15, 1, 7, 15, 3, 0, 16] up))).map (fun t => t.setup.measures[15]) =
      some ⟨true, .meanprod, 15, 3, 4096⟩ := by decide +kernel

theorem test_get_measure :
    reply .getMeasure (asks 0x13 [15] up) = some (0x93, .ok, [0, 0, 0, 0, 1, 0, 0, 0, 0, 0, 0, 0]) := by decide +kernel

theorem test_set_condition :
    (after (exec .setCondition (asks 0x14 [31, 2, 3, 0x20, 0xA1, 0x07, 0, 0, 0x80, 1, 0, 255, 2, 1, 0] up))).map (fun t =>
      t.setup.conditions[31]) = some ⟨2, .inside, 500000, 0x800000, 1, 255, 2, true, false⟩ := by decide +kernel

theorem test_get_condition :
    reply .getCondition (asks 0x15 [2] cascade) =
      some (0x95, .ok, [2, 0, 0x20, 0xA1, 0x07, 0, 0, 0, 0, 0, 1, 1, 0, 1, 1, 0, 0, 0]) := by decide +kernel

/-- C0 asserted and latched. -/
def latchedState : State :=
  { live with
    setup := { live.setup with conditions := put live.setup.conditions 0 { defaultCondition with latched := true } }
    conditions := put live.conditions 0 ⟨.asserted, 0, 1⟩ }

theorem test_arm_condition : reply .armCondition (asks 0x16 [31] live) = some (0x96, .ok, [1]) := by decide +kernel

theorem test_disarm_condition :
    (after (exec .disarmCondition (asks 0x17 [0] latchedState))).map (fun t => (t.conditions[0], t.events)) =
      some (⟨.disarmed, 0, 1⟩, [32]) := by decide +kernel

theorem test_unlatch_condition :
    (after (exec .unlatchCondition (asks 0x18 [0] latchedState))).map (fun t => (t.conditions[0], t.events)) =
      some (⟨.watching, 0, 1⟩, [32]) := by decide +kernel

theorem test_set_timer :
    (after (exec .setTimer (asks 0x19 [3, 0xFF, 0xFF, 0xFF, 1, 1, 0] live))).map (fun t => t.setup.timers[3]) =
      some ⟨16777215, .repeating, .up, false⟩ := by decide +kernel

theorem test_get_timer :
    reply .getTimer (asks 0x1A [0] live) = some (0x9A, .ok, [0xE8, 3, 0, 0, 0, 0, 0, 0, 0, 0, 0, 0]) := by decide +kernel

/-- T0 with one frame to go, and T1 held. -/
def timed : State :=
  { live with timers := put (put live.timers 0 ⟨.running, 1, 0⟩) 1 ⟨.held, 700, 0⟩ }

theorem test_start_timer : reply .startTimer (asks 0x1B [2] live) = some (0x9B, .ok, [1, 0xE8, 3, 0]) := by decide +kernel
theorem test_stop_timer : reply .stopTimer (asks 0x1C [0] timed) = some (0x9C, .ok, [2, 1, 0, 0]) := by decide +kernel
theorem test_resume_timer : reply .resumeTimer (asks 0x1D [1] timed) = some (0x9D, .ok, [1, 0xBC, 2, 0]) := by decide +kernel

theorem test_set_binding :
    (after (exec .setBinding (asks 0x1E [47, 1, 87, 11, 3, 2, 31] live))).map (fun t => t.setup.bindings[47]) =
      some ⟨true, 87, .lineToggle, 3, .whenNotAsserted, 31⟩
    ∧ reply .setBinding (asks 0x1E [47, 1, 87, 11, 4, 2, 31] live) = some (0x9E, .badValue, []) := by decide +kernel

theorem test_get_binding : reply .getBinding (asks 0x1F [7] cascade) = some (0x9F, .ok, [1, 2, 12, 0, 0, 0]) := by decide +kernel

theorem test_fire :
    (after (exec .fire (asks 0x20 [0x09] live))).map (fun t => t.events) = some [84, 87]
    ∧ reply .fire (asks 0x20 [16] live) = some (0xA0, .badValue, []) := by decide +kernel

theorem test_set_line : reply .setLine (asks 0x21 [1, 0, 0, 1] live) = some (0xA1, .ok, [1]) := by decide +kernel

theorem test_get_lines :
    reply .getLines (asks 0x22 [] up) =
      some (0xA2, .ok, [0, 0, 0, 0, 0, 0, 0, 0, 0, 0, 0, 0, 0, 0, 0, 0, 0, 0, 0, 0, 10, 0, 0, 10, 0, 0]) := by decide +kernel

theorem test_drive_line : reply .driveLine (asks 0x23 [3, 2] live) = some (0xA3, .ok, [1, 1]) := by decide +kernel

theorem test_set_unit :
    (after (exec .setUnit (asks 0x24 [3, 1, 0, 0xFF, 0x0F, 0xFF, 0xFF, 1, 1, 1, 1] live))).map (fun t => t.setup.units[3]) =
      some ⟨1, 4095, 65535, .extend, .discard, true, true⟩
    ∧ reply .setUnit (asks 0x24 [3, 2, 0, 0, 0, 1, 0, 0, 0, 0, 0] live) = some (0xA4, .setupConflict, []) := by
  decide +kernel

theorem test_get_unit :
    reply .getUnit (asks 0x25 [0] up) =
      some (0xA5, .ok, [1, 0, 0, 0, 0, 4, 0, 0, 0, 0, 0, 0, 0, 0, 0, 0, 0, 0, 0, 0, 0, 0, 0, 0]) := by decide +kernel

/-- K0 with a history ring of 513 frames: two pages of one lane. -/
def ringed : State :=
  { live with setup := { live.setup with units := put live.setup.units 0 ⟨1, 513, 2, .extend, .truncate, false, false⟩ } }

theorem test_arm_unit :
    (after (exec .armUnit (asks 0x26 [0] ringed))).map (fun t => (t.units[0].phase, t.units[0].prePages, t.store.free.length)) =
      some (.filling, [0, 1], 254) := by decide +kernel

/-- K0 ARMED, and K1 in POST in page 0 with one frame. -/
def armedState : State :=
  { live with
    units := put (put live.units 0 { clearedUnit with phase := .armed })
      1 { clearedUnit with phase := .post, postPages := [0], postCount := 1, remaining := 1023, lastStored := some 1,
                           triggerFrame := some 1, firstFrame := some 1 }
    store := { live.store with free := live.store.free.drop 1, mem := [(0, 5)] } }

theorem test_trigger_unit :
    (after (exec .triggerUnit (asks 0x27 [0] armedState))).map (fun t =>
      (t.units[0].phase, t.units[0].triggerSource, t.units[0].triggerFrame, t.units[0].remaining, t.events)) =
      some (.post, 255, none, 1024, [68]) := by decide +kernel

theorem test_abort_unit :
    (after (exec .abortUnit (asks 0x28 [1] armedState))).map (fun t => (t.units[1].phase, t.events)) = some (.idle, [73])
    ∧ (after (exec .abortUnit (asks 0x28 [1] armedState))).map (fun t => t.store.index.map fun r => (r.id, r.flags.toByte, r.pages)) =
      some [(1, 0x10, [0])] := by decide +kernel

/-- Capture 5 in the index, one frame of one lane in page 9, its word 0x0000FF. -/
def kept : State :=
  { up with store := { up.store with free := up.store.free.erase 9, mem := [(4608, 255)], index := [recordOf 5 false 9], nextId := 6 } }

theorem test_list_captures : reply .listCaptures (asks 0x29 [] kept) = some (0xA9, .ok, [1, 5, 0, 0]) := by decide +kernel

theorem test_get_capture :
    reply .getCapture (asks 0x2A [5, 0] kept) =
      some (0xAA, .ok, [5, 0, 1, 1, 0, 1, 0, 1, 0, 0, 0, 0, 1, 0, 0, 0, 0, 0, 0, 1, 0, 0, 0, 4, 16, 0, 0, 0, 0, 0, 0, 1, 0, 0]) := by
  decide +kernel

theorem test_read_frames :
    reply .readFrames (asks 0x2B [5, 0, 0, 0, 0, 0] kept) = some (0xAB, .ok, [5, 0, 0, 0, 0, 1, 255, 0, 0])
    ∧ reply .readFrames (asks 0x2B [5, 0, 1, 0, 0, 1] kept) = some (0xAB, .badValue, []) := by decide +kernel

theorem test_hold_capture : reply .holdCapture (asks 0x2C [5, 0, 1] kept) = some (0xAC, .ok, [1]) := by decide +kernel

theorem test_release_capture :
    reply .releaseCapture (asks 0x2D [5, 0] kept) = some (0xAD, .ok, [1, 0, 0, 1])
    ∧ reply .releaseCapture (asks 0x2D [6, 0] kept) = some (0xAD, .notFound, []) := by decide +kernel

theorem test_set_store : reply .setStore (asks 0x2E [255, 1] kept) = some (0xAE, .ok, [0]) := by decide +kernel

theorem test_get_store :
    reply .getStore (asks 0x2F [] kept) = some (0xAF, .ok, [16, 0, 0, 255, 0, 0, 0, 1, 0, 1, 0, 6, 0]) := by decide +kernel

/-- SEEKING, FSY sampled low. -/
def seeking : State := { live with iface := { live.iface with state := .seeking, syncTimer := none } }

theorem test_first_sync_edge :
    (after (exec (.firstSyncEdge [fsyEdge]) seeking)).map (fun t => (t.iface.state, t.iface.shiftA, t.iface.frameNumber)) =
      some (.receiving, [true], 0) := by decide +kernel

/-- The bits of 0xFFFE in the shift stage of SA. -/
def shifted : State := { live with iface := { live.iface with shiftA := List.replicate 15 true ++ [false] } }

theorem test_frame_boundary :
    (after (exec (.frameBoundary [fsyEdge]) shifted)).map (fun t => (t.iface.holding, t.iface.frameNumber, t.iface.shiftA)) =
      some (some ⟨1, [BitVec.ofInt 24 (-512)], []⟩, 1, [true])
    ∧ (after (exec (.frameBoundary [fsyEdge]) live)).map (fun t => (t.iface.holding, t.iface.shortFrames, t.events)) =
      some (none, 1, [80]) := by decide +kernel

theorem test_timer_expire :
    (after (exec (.timerExpire 0 [fsyEdge]) { timed with iface := shifted.iface })).map (fun t => (t.timers[0], t.timers[1], t.events)) =
      some (⟨.idle, 0, 1⟩, ⟨.held, 700, 0⟩, [64]) := by decide +kernel

theorem test_sync_lost :
    (after (exec (.syncLost 245760) live)).map (fun t => (t.iface.state, t.iface.syncLosses, t.events)) = some (.lost, 1, [81])
    ∧ (after (exec (.syncLost 245759) live)).map (fun t => (t.iface.state, t.iface.syncTimer)) =
        some (.receiving, some 245759) := by decide +kernel

/-- LOST, FSY sampled low. -/
def lostState : State := { live with iface := { live.iface with state := .lost, syncTimer := none } }

theorem test_sync_regained :
    (after (exec (.syncRegained [fsyEdge]) lostState)).map (fun t => (t.iface.state, t.iface.frameNumber, t.events)) =
      some (.receiving, 0, [82]) := by decide +kernel

/-- IN0 high for 4 periods, its filtered level low. -/
def rising : State := { live with inputs := put live.inputs 0 ⟨true, false, some 4⟩ }

/-- Ten microseconds are 245.76 periods: 246 are enough and 245 are not. -/
theorem test_input_accepted :
    (after (exec (.inputAccepted 0 242) rising)).map (fun t => (t.inputs[0], t.events)) = some (⟨true, true, none⟩, [76])
    ∧ (after (exec (.inputAccepted 0 241) rising)).map (fun t => (t.inputs[0], t.events)) =
        some (⟨true, false, some 245⟩, []) := by decide +kernel

theorem test_input_pin_change :
    (after (exec (.inputPinChange 1 true) live)).map (fun t => t.inputs[1]) = some ⟨true, false, some 0⟩
    ∧ (after (exec (.inputPinChange 0 false) rising)).map (fun t => t.inputs[0]) = some ⟨false, false, none⟩ := by
  decide +kernel

/-! ### States that meet the statements' hypotheses -/

/-- A part in the middle of things, with every invariant of the model: a request begun, a notice going out, a frame waiting, K0 ARMED, K1 in POST in page 0, capture 5 in page 1. -/
def busy : State :=
  let n : Notice := .streamFault .regained false false 1 0
  let s := asks 0x01 [] (holds 1 5 live)
  { s with
    conditions := put s.conditions 0 ⟨.watching, 0, 0⟩
    timers := put s.timers 0 ⟨.running, 1000, 0⟩
    events := [82, 84]
    inputs := put s.inputs 0 ⟨true, false, some 4⟩
    units := armedState.units
    store := { free := allPages.drop 2, low := .normal, mem := [(0, 5)], index := [recordOf 5 false 1], nextId := 6 }
    link := { s.link with notices := [n], transmitter := .sendingNotice n.wire }
    pending := [.identify] }

theorem test_busy_steps : ∃ t : State, step busy = .next t := ⟨_, rfl⟩
theorem test_busy_memory : MemoryCanonical busy := by unfold MemoryCanonical; decide +kernel
theorem test_busy_events : EventsAreASet busy := by unfold EventsAreASet; decide +kernel
theorem test_busy_low_water : LowWaterTrue busy := by unfold LowWaterTrue; decide +kernel
theorem test_busy_index : IndexConsistent busy := by constructor <;> decide +kernel
theorem test_busy_link : LinkConsistent busy := by
  refine ⟨by decide +kernel, by decide +kernel, by decide +kernel, by decide +kernel, ?_⟩
  exact ⟨_, _, rfl, rfl⟩
theorem test_busy_pages : PagesPartitioned busy := by
  refine ⟨?_, ?_, ?_⟩
  · decide +kernel
  · unfold IdleUnitsCleared; decide +kernel
  · decide +kernel
theorem test_busy_engine : EngineConsistent busy := by
  constructor <;> (try decide +kernel)

theorem test_busy_setup : busy.setup.InRange := by
  constructor <;>
    (try unfold PortSetup.InRange) <;> (try unfold InterfaceSetup.InRange) <;> (try unfold MeasureSetup.InRange) <;>
    (try unfold ConditionSetup.InRange) <;> (try unfold TimerSetup.InRange) <;> (try unfold Binding.InRange) <;>
    (try unfold UnitSetup.InRange) <;> decide +kernel
theorem test_busy_setups : SetupsInRange busy := ⟨test_busy_setup, (fun h => nomatch h), (fun _ h => nomatch h)⟩
theorem test_busy_tables : TablesInRange busy := by
  constructor
  · have h : ∀ t : Fin 4, busy.setup.timers[t].direction = .down ∧ busy.timers[t].count ≤ busy.setup.timers[t].period
        ∧ (busy.timers[t].phase ≠ .idle → 1 ≤ busy.timers[t].count) := by decide +kernel
    intro t; unfold TimerInRange; rw [(h t).1]; exact (h t).2
  · have h : ∀ c : Fin 32, busy.conditions[c].runCount = 0 ∧ busy.setup.conditions[c].qualify = 1
        ∧ busy.conditions[c].phase ≠ .asserted := by decide +kernel
    intro c; unfold ConditionInRange; rw [(h c).1, (h c).2.1]
    have h3 := (h c).2.2
    split <;> first | rfl | decide | contradiction
  · intro m; unfold MeasureInRange; revert m; decide +kernel
  · have h0 : busy.inputs[(0 : Fin 2)] = ⟨true, false, some 4⟩ := by decide +kernel
    have h1 : busy.inputs[(1 : Fin 2)] = ⟨false, false, none⟩ := by decide +kernel
    have h2 : filterReached 4 busy.setup.filters[(0 : Fin 2)] = false := by decide +kernel
    intro i; unfold InputInRange
    match i with
    | 0 => rw [h0]; exact ⟨by decide, h2⟩
    | 1 => rw [h1]
theorem test_busy_captures : CapturesInRange busy := by
  refine ⟨fun k hk => ?_, fun r hr => ?_⟩
  · constructor <;> (revert k; decide +kernel)
  · have h : r = recordOf 5 false 1 := List.mem_singleton.mp hr
    subst h; constructor <;> decide +kernel

/-! #### The queue, the writers, the records -/

theorem test_meets_writers :
    (∃ t : State, exec .identify busy = .next t ∧ writesSetup .identify = false)
    ∧ (∃ t : State, exec .run (asks 0x03 [] ready) = .next t ∧ t.runNumber = 1) := by
  exact ⟨⟨_, rfl, rfl⟩, ⟨_, rfl, by decide +kernel⟩⟩

/-- A request and a TAKE that leave capture 5 in the index. -/
theorem test_meets_records :
    ∀ c : Instr, c = .identify ∨ c = .take [.edge fsyEdge] →
      ∃ t : State, exec c busy = .next t ∧ recordOf 5 false 1 ∈ busy.store.index ∧ recordOf 5 false 1 ∈ t.store.index
        ∧ busy.setup.store.policy = .keepOld ∧ 0 < (recordOf 5 false 1).frames := by
  rintro c (rfl | rfl) <;> exact ⟨_, rfl, by decide +kernel, by decide +kernel, by decide +kernel, by decide⟩

/-! #### The link -/

/-- Two requests wait, with `n` replies. -/
def crowded (n : Nat) : State :=
  let s := asks 0x01 [] up
  { s with link := { s.link with
      requests := [⟨1, 7, []⟩, ⟨1, 8, []⟩], replies := List.replicate n ⟨0x81, 1, .ok, []⟩
      transmitter := .sendingReply (Reply.wire ⟨0x81, 1, .ok, []⟩) } }

theorem test_meets_good_message :
    up.link.receiver.state = .hunt ∧ up.link.requests.length < 2 ∧ (List.replicate 248 (0 : Byte)).length ≤ 248 := by
  decide +kernel

theorem test_meets_full_queue :
    (crowded 3).link.receiver.state = .hunt ∧ (crowded 3).link.requests.length = 2 ∧ (crowded 3).startup = none
    ∧ (crowded 3).link.replies.length < 4 ∧ (crowded 4).link.replies.length = 4
    ∧ ({ crowded 0 with startup := some .pin } : State).startup ≠ none := by decide +kernel

theorem test_meets_receiver_failures :
    halfway.link.receiver.state = .length ∧ (1#8).toNat < 2 ∧ 250 < (251#8).toNat
    ∧ (check [2#8, 1, 1]).toNat ≠ (0#8).toNat + 256 * (0#8).toNat
    ∧ up.link.receiver.state = .hunt ∧ State.reset.link.receiver.awaitHigh = true
    ∧ halfway.link.receiver.awaitHigh = false ∧ 245760 < halfway.link.receiver.gap + 245761 := by decide +kernel

/-- The check clause: a message whose low check byte has come. -/
theorem test_meets_check_error :
    ∃ s : State, s.link.receiver.state = .check 2 [1, 1] (some 0) :=
  ⟨{ up with link := { up.link with receiver := ⟨.check 2 [1, 1] (some 0), false, 0⟩ } }, rfl⟩

theorem test_meets_replies :
    (crowded 3).link.requests = [⟨1, 7, []⟩, ⟨1, 8, []⟩] ∧ (crowded 3).link.replies.length < 4 ∧ 4 ≤ (crowded 4).link.replies.length
    ∧ holding.link.dispatcher = .executing (.holding ⟨0x81, 1, .ok, []⟩) ∧ holding.link.requests = [⟨1, 7, []⟩]
    ∧ 4 ≤ holding.link.replies.length := by decide +kernel

/-- A reply goes out with another behind it; a notice goes out with none behind it. -/
theorem test_meets_transmitter :
    (∃ b, holding.link.transmitter = .sendingReply b) ∧ holding.link.replies.tail ≠ []
    ∧ (∃ b, busy.link.transmitter = .sendingNotice b) ∧ busy.link.replies = [] ∧ busy.link.notices.tail = [] :=
  ⟨⟨_, rfl⟩, by decide +kernel, ⟨_, rfl⟩, by decide +kernel, by decide +kernel⟩

/-- Kinds 0, 0x0A, 0x0F, 0x30 and 0xFF are no request kinds. -/
theorem test_meets_unknown_kind :
    ∀ k ∈ [0#8, 0x0A, 0x0F, 0x30, 0xFF], (asks k [1] up).current = some ⟨k, 7, [1]⟩
      ∧ ¬ (1 ≤ k.toNat ∧ k.toNat ≤ 9) ∧ ¬ (0x10 ≤ k.toNat ∧ k.toNat ≤ 0x2F) := by decide +kernel

/-! #### The engine and the setup store -/

/-- After a hard reset, with the image `image`. -/
def starting (image : SetupImage) : State := State.afterReset .pin ⟨true, true, true, false⟩ image []

theorem test_meets_startup :
    EngineConsistent (starting savedImage) ∧ EngineConsistent (starting blankImage)
    ∧ (starting savedImage).startup = some .pin ∧ (starting savedImage).link.notices = [] := by
  refine ⟨?_, ?_, by decide +kernel, by decide +kernel⟩ <;> constructor <;> decide +kernel

theorem test_meets_restart_read :
    EngineConsistent (restarting savedImage) ∧ EngineConsistent (restarting blankImage)
    ∧ (restarting savedImage).link.dispatcher = .executing .restarting
    ∧ (restarting savedImage).link.requests = [⟨0x05, 7, []⟩] ∧ (restarting savedImage).link.notices.length < 16 := by
  refine ⟨?_, ?_, by decide +kernel, by decide +kernel, by decide +kernel⟩ <;> constructor <;> decide +kernel

theorem test_meets_restart :
    ∀ s ∈ [asks 0x05 [] up, asks 0x05 [] live], s.current = some ⟨0x05, 7, []⟩ ∧ s.link.replies.length < 4 := by
  decide +kernel

theorem test_meets_saving_and_loading :
    saving.link.dispatcher = .waiting (.saving ready.setup) ∧ saving.link.requests ≠ []
    ∧ (∀ s ∈ [loading savedImage, loading blankImage, asks 0x07 [] up], s.engine = .stopped)
    ∧ (loading savedImage).link.dispatcher = .waiting .loading ∧ (loading savedImage).image.state = .valid
    ∧ (loading blankImage).image.state ≠ .valid := by decide +kernel

/-- Each outcome of the RUN checks: SA disabled, measure 15, unit 3, none. -/
theorem test_meets_run_checks :
    runChecks defaultSetup = some .saDisabled
    ∧ runChecks { ready.setup with measures := put defaultSetup.measures 15 ⟨true, .diff, 0, 8, 1⟩ } = some (.measure 15)
    ∧ runChecks { ready.setup with units := put defaultSetup.units 3 ⟨0x8000, 0, 1, .ignore, .truncate, false, false⟩ } =
        some (.unit 3)
    ∧ runChecks ready.setup = none := by decide +kernel

theorem test_meets_run :
    ready.engine = .stopped ∧ runChecks ready.setup = none ∧ runChecks up.setup = some .saDisabled ∧ live.engine = .running := by
  decide +kernel

/-- K0 needs no page, K1 needs one and K2 eight; three pages are free. -/
def crammed : State :=
  { ready with
    setup := { ready.setup with
      units := put (put (put ready.setup.units 0 ⟨1, 0, 1, .ignore, .truncate, false, true⟩)
        1 ⟨1, 512, 1, .ignore, .truncate, false, true⟩) 2 ⟨1, 4095, 1, .ignore, .truncate, false, true⟩ }
    store := { ready.store with free := [7, 8, 9] } }

theorem test_run_arms_or_reports :
    (after (exec .run (asks 0x03 [] crammed))).map (fun t =>
      (t.units[0].phase, t.units[1].prePages, t.units[2].phase, t.units[3].phase)) = some (.armed, [7], .idle, .idle)
    ∧ (after (exec .run (asks 0x03 [] crammed))).map (fun t => t.link.notices) = some [.armFailed 2 .armAtRun 1 0 8 2] := by
  decide +kernel

/-- K0 FILLING with two pages, K1 in POST. -/
def working : State :=
  { armedState with units := put armedState.units 0 { clearedUnit with phase := .filling, prePages := [4, 9] } }

theorem test_stop_returns_and_closes :
    (after (exec .stop (asks 0x04 [] working))).map (fun t => (t.units[0].phase, t.store.free.drop 255, t.link.notices)) =
      some (.idle, [4, 9], [.captureClosed 1 1 1 { noFlags with stopped := true } 1 0 1]) := by decide +kernel

/-! #### The frame interface -/

theorem test_meets_samples :
    let p : PortSetup := ⟨true, 6, .p16, .w16, .lsbFirst, true, .falling⟩
    ((List.replicate 97 true).drop (1 + 5 * 16)).take 16 = List.replicate 16 true
    ∧ (List.replicate 16 true).length = p.width.bits ∧ 5 < p.slots
    ∧ (List.replicate 24 true).length = SampleWidth.bits .w24 := by
  decide

theorem test_meets_shift :
    live.iface.state = .receiving ∧ live.iface.firstFsyDue = false ∧ live.setup.interface.source = .follower
    ∧ ∀ e ∈ [dataEdge .rising true, dataEdge .falling false], e.fsy = false := by decide +kernel

/-- A PROVIDER run. -/
def providing (due : Bool) : State :=
  { live with
    setup := { live.setup with interface := ⟨.provider, 8, 256, 10⟩ }
    iface := { live.iface with firstFsyDue := due, syncTimer := none } }

/-- PROVIDER clocking, SA sampling on the rising edge: FSY rises on the first falling edge, is sampled high on the next rising edge, and falls on the falling edge after it. -/
theorem test_provider_pins :
    let s := { providing true with iface := enteredInterface (providing true).setup (providing true).iface }
    let r := dataEdge .rising true
    let f := dataEdge .falling true
    [[], [r], [r, f], [r, f, r], [r, f, r, f]].map (fun es => ((s.clockAll es).sckPin, (s.clockAll es).fsyPin)) =
      [(false, false), (true, false), (false, true), (true, true), (false, false)]
    ∧ (s.clockAll [r, f]).iface.firstFsyDue = true ∧ (s.clockAll [r, f, r]).iface.firstFsyDue = false := by decide +kernel

theorem test_meets_first_sync :
    fsyEdge.edge = seeking.setup.portA.edge ∧ seeking.iface.lastFsy = false ∧ seeking.iface.state = .seeking
    ∧ seeking.setup.interface.source = .follower ∧ seeking.iface.fsyLow = true
    ∧ (providing true).iface.state = .receiving ∧ (providing true).iface.firstFsyDue = true
    ∧ (providing true).setup.interface.source = .provider ∧ (providing true).iface.fsyPhase = 0 := by decide +kernel

/-- A frame boundary in both clockings; a frame of 16 bits is whole and one of 15 short; the stage EMPTY and FULL. -/
theorem test_meets_boundary :
    SyncEdgeInFrame shifted fsyEdge ∧ SyncEdgeInFrame (providing false) fsyEdge
    ∧ ¬ ShortPort port1 shifted.iface.shiftA ∧ ShortPort port1 (List.replicate 15 true)
    ∧ shifted.iface.holding = none ∧ (holds 1 5 shifted).iface.holding = some ⟨1, [5], []⟩ := by
  unfold SyncEdgeInFrame ShortPort
  refine ⟨⟨?_, ?_, ?_, ?_, rfl⟩, ⟨?_, ?_, ?_, ?_, rfl⟩, ?_, ?_, ?_, ?_⟩ <;> decide +kernel

/-- A timer with one frame to go, in each mode and direction. -/
theorem test_meets_timers :
    ∀ u ∈ [(⟨1, .oneShot, .down, false⟩ : TimerSetup), ⟨1, .repeating, .down, false⟩, ⟨9, .oneShot, .up, false⟩,
        ⟨9, .repeating, .up, false⟩],
      timerDue u ⟨.running, match u.direction with | .down => 1 | .up => 8, 0⟩ = true := by decide

theorem test_meets_sync_loss :
    live.engine = .running ∧ live.iface.syncTimer = some 0 ∧ live.setup.interface.syncLossMs * 24576 ≤ 0 + 245760
    ∧ lostState.engine = .running ∧ lostState.iface.state = .lost ∧ lostState.setup.interface.source = .follower
    ∧ fsyEdge.edge = lostState.setup.portA.edge ∧ lostState.iface.lastFsy = false ∧ lostState.iface.fsyLow = true := by
  decide +kernel

/-- Ports and interfaces at the ends of their ranges. -/
theorem test_meets_set_port :
    PortSetup.InRange ⟨true, 8, .p24, .w24, .lsbFirst, true, .falling⟩ ∧ PortSetup.InRange port1
    ∧ InterfaceSetup.InRange ⟨.provider, 64, 512, 255⟩ ∧ InterfaceSetup.InRange ⟨.follower, 2, 32, 1⟩ := by
  unfold PortSetup.InRange InterfaceSetup.InRange; decide

/-! #### Measures, conditions, timers -/

/-- The setups of the SET requests at the ends of their ranges, and entries at rest and in use. -/
theorem test_meets_set_requests :
    MeasureSetup.InRange ⟨true, .mean, 15, 0, 4096⟩ ∧ ConditionSetup.InRange ⟨15, .inside, 5, 5, 65535, 255, 1, true, true⟩
    ∧ TimerSetup.InRange ⟨16777215, .repeating, .up, true⟩ ∧ UnitSetup.InRange ⟨0x8000, 4095, 65535, .extend, .discard, true, true⟩
    ∧ latchedState.conditions[0].phase ≠ .disarmed ∧ live.conditions[0].phase = .disarmed
    ∧ timed.timers[0].phase ≠ .idle ∧ live.timers[0].phase = .idle
    ∧ armedState.units[1].phase ≠ .idle ∧ live.units[1].phase = .idle := by
  unfold MeasureSetup.InRange ConditionSetup.InRange TimerSetup.InRange UnitSetup.InRange; decide +kernel

/-- A window measure at the first and at the last frame of a window of four. -/
theorem test_meets_windows :
    MeasureKind.perFrame .span = false
    ∧ updateMeasure ⟨true, .span, 2, 0, 4⟩ (put (Vector.replicate 16 0) 2 7) ⟨0, false, 3, 2500, BitVec.ofInt 24 (-3000), 0⟩ =
        ⟨5500, true, 0, 0, 0, 0⟩
    ∧ updateMeasure ⟨true, .mean, 2, 0, 4⟩ (put (Vector.replicate 16 0) 2 7) ⟨126, true, 0, 0, 0, 0⟩ =
        ⟨126, false, 1, 7, 7, 7⟩ := by decide +kernel

/-- Every case of one evaluation, with the counts at their ends. -/
theorem test_meets_evaluation :
    assertTest ⟨0, .above, 5, 0, 2, 255, 1, false, false⟩ 6 = true ∧ assertTest ⟨0, .above, 5, 0, 2, 255, 1, false, false⟩ 5 = false
    ∧ releaseTest ⟨0, .above, 5, 0, 2, 255, 1, false, false⟩ 3 = true
    ∧ releaseTest ⟨0, .above, 5, 0, 2, 255, 1, false, false⟩ 4 = false
    ∧ assertTest ⟨0, .inside, 5, 5, 0, 1, 1, false, false⟩ 5 = true
    ∧ releaseTest ⟨0, .outside, 5, 3, 1, 1, 1, false, false⟩ 4 = true := by decide +kernel

theorem test_meets_condition_requests :
    latchedState.engine = .running ∧ latchedState.conditions[0].phase = .asserted
    ∧ latchedState.setup.conditions[0].latched = true ∧ latchedState.conditions[31].phase = .disarmed
    ∧ cascade.conditions[2].phase = .watching := by decide +kernel

theorem test_meets_timer_requests :
    timed.engine = .running ∧ timed.timers[0].phase = .running ∧ timed.timers[1].phase = .held ∧ timed.timers[3].phase = .idle := by
  decide +kernel

/-! #### The event matrix and the take -/

/-- In the cascade frame 120 fires B0, B1, B2 and B7. -/
theorem test_meets_take :
    cascade.engine = .running ∧ cascade.firedAt ⟨120, [0, 620000], []⟩ = [0, 1, 2, 7]
    ∧ cascade.iface.holding = some ⟨120, [0, 620000], []⟩ := by decide +kernel

/-- A frame that fires nothing with no unit armed. -/
theorem test_meets_plain_take :
    (holds 1 5 live).firedAt ⟨1, [5], []⟩ = [] ∧ (∀ k : Fin 4, (holds 1 5 live).units[k].phase = .idle)
    ∧ (holds 1 5 live).engine = .running := by decide +kernel

/-- DISARM reaches C2 and no other condition; SET reaches OUT1; no STOP reaches a timer. -/
theorem test_meets_actions :
    Reaches cascade [0, 1, 2, 7] .condDisarm 2 ∧ ¬ Reaches cascade [0, 1, 2, 7] .condDisarm 3
    ∧ Reaches cascade [0, 1, 2, 7] .lineSet 1 ∧ ¬ Reaches cascade [0, 1, 2, 7] .timerStop 0
    ∧ Reaches cascade [0, 1, 2, 7] .unitTrigger 0 ∧ ¬ Reaches cascade [0, 1, 2, 7] .unitAbort 0
    ∧ Reaches cascade [6] .unitArm 0 ∧ Reaches cascade [5] .condArm 2 ∧ Reaches cascade [3] .lineClear 1 := by
  unfold Reaches; refine ⟨?_, ?_, ?_, ?_, ?_, ?_, ?_, ?_, ?_⟩ <;> decide +kernel

/-- The actions the cascade has no binding for: UNLATCH, ABORT, TOGGLE and the timers' three. -/
theorem test_meets_other_actions :
    ∀ p ∈ [(Action.condUnlatch, 31), (.unitAbort, 3), (.lineToggle, 3), (.timerStop, 3), (.timerStart, 3), (.timerResume, 3)],
      Reaches { live with setup := { live.setup with bindings := put live.setup.bindings 47 ⟨true, 80, p.1, p.2, .always, 0⟩ } }
        [47] p.1 p.2 := by
  unfold Reaches; decide +kernel

/-- FIRE has placed SOFT0 and SOFT1, each bound to a NOTIFY; the notice queue is full, and its oldest notice is going out. -/
def loud : State :=
  let n : Notice := .streamFault .regained false false 1 0
  let s := holds 1 5 live
  { s with
    setup := { s.setup with
      bindings := put (put s.setup.bindings 3 ⟨true, 84, .notify, 0, .always, 0⟩) 40 ⟨true, 85, .notify, 0, .always, 0⟩ }
    events := [84, 85]
    link := { s.link with notices := List.replicate 16 n, transmitter := .sendingNotice n.wire } }

theorem test_meets_notify :
    loud.firedAt ⟨1, [5], []⟩ = [3, 40] ∧ (∀ k : Fin 4, loud.units[k].phase = .idle)
    ∧ (after (exec (.take []) loud)).map (fun t => (t.link.notices.length, t.link.noticesLost)) = some (16, 2)
    ∧ cascade.link.notices.length = 0 := by decide +kernel

/-- R99: the first EVENT notice is lost; a notice goes out, and the second is queued. -/
theorem test_event_lost_then_queued :
    (after (exec (.take [.event, .noticeSent]) loud)).map (fun t => (t.link.noticesLost, t.link.notices.getLast?)) =
      some (1, some (.event 40 85 1 1 0)) := by decide +kernel

/-- R74: a boundary between the STOP of T0 and the STOP of T1: T0 keeps its count, T1 expires first. -/
theorem test_timer_actions_around_a_boundary :
    let s := holds 1 5 { live with
      timers := put (put live.timers 0 ⟨.running, 1, 0⟩) 1 ⟨.running, 1, 0⟩
      events := [84]
      setup := { live.setup with
        bindings := put (put live.setup.bindings 0 ⟨true, 84, .timerStop, 0, .always, 0⟩) 1 ⟨true, 84, .timerStop, 1, .always, 0⟩ } }
    (after (exec (.take [.timer 0, .edge fsyEdge]) s)).map (fun t => (t.timers[0], t.timers[1])) =
      some (⟨.held, 1, 0⟩, ⟨.idle, 0, 1⟩) := by decide +kernel

theorem test_meets_bindings :
    Binding.InRange ⟨true, 87, .condArm, 31, .whenAsserted, 31⟩ ∧ Binding.InRange ⟨true, 87, .notify, 255, .always, 0⟩
    ∧ live.engine = .running ∧ up.engine = .stopped ∧ 15 < (16#8).toNat ∧ (15#8).toNat ≤ 15 := by
  unfold Binding.InRange; decide +kernel

/-! #### The signal lines -/

/-- A measurement of 246 periods has reached ten microseconds, and one of 245 has not. -/
theorem test_meets_lines :
    rising.inputs[0].hold = some 4 ∧ live.inputs[1].hold = none ∧ 10 * 24576 ≤ 246 * 1000 ∧ 245 * 1000 < 10 * 24576
    ∧ (0#8).toNat * 24576 ≤ 4 * 1000 ∧ 4 * 1000 < (1#8).toNat * 24576 ∧ 0 < live.setup.filters[0] := by decide +kernel

/-- A filter time of 0 with no measurement running. -/
theorem test_meets_no_filter :
    (after (exec (.inputPinChange 0 true)
      { live with setup := { live.setup with filters := put live.setup.filters 0 0 } })).map (fun t => (t.inputs[0], t.events)) =
      some (⟨true, true, none⟩, [76]) := by decide +kernel

/-! #### The capture units and the store -/

/-- K0's ring needs two pages; with one page left the claim is refused. -/
theorem test_meets_arm :
    ringed.engine = .running ∧ ringPages ringed.setup.units[0].mask ringed.setup.units[0].pre = 2 ∧ ringed.units[0].phase = .idle
    ∧ 2 ≤ ringed.store.free.length ∧ ([5] : List Page).length < 2 ∧ armedState.units[0].phase ≠ .idle := by decide +kernel

theorem test_meets_trigger_and_abort :
    armedState.engine = .running ∧ armedState.units[0].phase = .armed ∧ armedState.units[1].phase = .post
    ∧ armedState.units[2].phase = .idle ∧ armedState.setup.units[1].retrigger = .ignore ∧ ringed.setup.units[0].retrigger = .extend := by
  decide +kernel

/-- A full index: its records held but for the third. -/
def indexFull : State :=
  { armedState with
    setup := { armedState.setup with store := ⟨16, .replaceOld⟩ }
    store := { armedState.store with
      free := allPages.drop 33
      index := (List.finRange 32).map fun i => recordOf (BitVec.ofNat 16 (i.val + 1)) (decide (i.val < 2)) ⟨i.val + 1, by omega⟩ } }

theorem test_meets_close :
    armedState.store.index.length < 32 ∧ 32 ≤ indexFull.store.index.length ∧ indexFull.setup.store.policy = .replaceOld
    ∧ indexFull.store.index = indexFull.store.index.take 2 ++ recordOf 3 false 3 :: indexFull.store.index.drop 3
    ∧ (∀ x ∈ indexFull.store.index.take 2, x.held = true) ∧ live.setup.store.policy = .keepOld := by decide +kernel

/-- The close of K1 over a full index replaces capture 3. -/
theorem test_close_replaces :
    (after (exec .abortUnit (asks 0x28 [1] indexFull))).map (fun t => (t.store.index.length, t.store.index.map CaptureRecord.id)) =
      some (32, [1, 2] ++ ((List.range 29).map fun i => BitVec.ofNat 16 (i + 4)) ++ [33]) := by decide +kernel

theorem test_meets_ids : indexFull.store.index.length ≤ 32 ∧ indexFull.store.nextId ≠ 0 := by decide +kernel

/-- K0 FILLING with two ring pages, the ring head in the second. -/
def filling : State :=
  { ringed with
    units := put ringed.units 0
      { clearedUnit with
        phase := .filling, prePages := [4, 9], historyCount := 512, ringHead := 512
        ringFrames := (List.range 512).map fun i => BitVec.ofNat 40 (i + 1), lastStored := some 512 } }

theorem test_meets_history :
    filling.units[0].phase = .filling ∧ 0 < filling.setup.units[0].pre
    ∧ filling.units[0].prePages[filling.units[0].ringHead / framesPerPage filling.setup.units[0].mask]? = some 9
    ∧ 4608 = frameAddress 9 (laneCount filling.setup.units[0].mask)
        (filling.units[0].ringHead % framesPerPage filling.setup.units[0].mask) := by decide +kernel

theorem test_meets_history_memory : MemoryCanonical filling := by unfold MemoryCanonical; decide +kernel

/-- The ring with a place left, and the ring full with the ring head in it. -/
theorem test_meets_ring :
    UnitInRange filling.setup.units[0] filling.units[0] ∧ filling.units[0].prePages.Nodup
    ∧ UnitInRange filling.setup.units[0]
        { filling.units[0] with
          phase := .armed, historyCount := 513, ringHead := 100
          ringFrames := (List.range 513).map fun i => BitVec.ofNat 40 (i + 1) } := by
  refine ⟨?_, by decide +kernel, ?_⟩ <;> constructor <;> decide +kernel

theorem test_meets_post :
    let u := armedState.units[1]
    u.phase = .post ∧ 1 < u.remaining ∧ armedState.setup.units[1].mask ≠ 0 ∧ u.preCount ≤ armedState.setup.units[1].pre
    ∧ u.prePages.length = ringPages armedState.setup.units[1].mask armedState.setup.units[1].pre
    ∧ u.postCount < u.postPages.length * framesPerPage armedState.setup.units[1].mask
    ∧ u.postPages[u.postCount / framesPerPage armedState.setup.units[1].mask]? = some 0
    ∧ Memory.wf armedState.store.mem = true := by decide +kernel

/-- The POST frame that takes a page, and the last one, without and with auto-rearm. -/
theorem test_meets_last_post :
    let u := { armedState.units[1] with remaining := 1 }
    (∃ pg rest, armedState.store.free = pg :: rest) ∧ u.remaining = 1 ∧ u.phase = .post
    ∧ u.postCount < u.postPages.length * framesPerPage armedState.setup.units[1].mask
    ∧ ({ u with postCount := 512 } : UnitState).postCount = u.postPages.length * framesPerPage armedState.setup.units[1].mask
    ∧ armedState.setup.units[1].autoRearm = false
    ∧ ({ armedState.setup.units[1] with autoRearm := true } : UnitSetup).autoRearm = true :=
  ⟨⟨_, _, rfl⟩, by decide +kernel⟩

/-- K1 in POST with its one page full, and no page free. -/
def dry : State :=
  { armedState with
    units := put armedState.units 1 { armedState.units[1] with postCount := 512, remaining := 512 }
    store := { armedState.store with free := [] } }

/-- The same unit with auto-rearm and the full policy `full`. -/
def dryAgain (full : FullPolicy) : State :=
  { dry with
    setup := { dry.setup with
      units := put dry.setup.units 1 { dry.setup.units[1] with autoRearm := true, full := full } } }

theorem test_meets_refused_page :
    dry.units[1].phase = .post ∧ dry.engine = .running ∧ dry.store.free = [] ∧ dry.setup.units[1].autoRearm = false
    ∧ dry.units[1].postCount = dry.units[1].postPages.length * framesPerPage dry.setup.units[1].mask
    ∧ dry.setup.units[1].full = .truncate
    ∧ ({ dry.setup.units[1] with full := .discard } : UnitSetup).full = .discard := by decide +kernel

theorem test_meets_refused_page_rearmed :
    ∀ full ∈ [FullPolicy.truncate, .discard],
      (dryAgain full).units[1].phase = .post ∧ (dryAgain full).engine = .running ∧ (dryAgain full).store.free = []
      ∧ (dryAgain full).setup.units[1].autoRearm = true ∧ (dryAgain full).setup.units[1].full = full
      ∧ (dryAgain full).units[1].postCount =
          (dryAgain full).units[1].postPages.length * framesPerPage (dryAgain full).setup.units[1].mask := by
  decide +kernel

/-- R98, R172: an EVENT notice as bytes on LTX, up to its check. -/
theorem test_event_notice_bytes :
    (Notice.event 7 84 3 120 5).wire.take 17 = [0xC3, 15, 0x61, 0, 7, 84, 3, 0, 120, 0, 0, 0, 0, 5, 0, 0, 0]
    ∧ (Notice.event 7 84 3 120 5).wire.length = 19 := by decide +kernel

/-- Capture 5 is in the index, and capture 6 is not; the last offset of its one frame is 0. -/
theorem test_meets_readout :
    IndexConsistent kept ∧ kept.store.index = [] ++ recordOf 5 false 9 :: [] ∧ (∀ r ∈ kept.store.index, r.id ≠ 6)
    ∧ (recordOf 5 false 9).preCount + (recordOf 5 false 9).postCount = 1 := by
  refine ⟨?_, by decide +kernel, by decide +kernel, by decide⟩
  constructor <;> decide +kernel

/-- A record of five pre frames and one post frame of one lane, the ring wrapped at place 2: offset 3 is place 0, offset 5 the post frame. -/
theorem test_meets_ring_readout :
    let r := { recordOf 5 false 9 with preCount := 5, pre := 5, ringHead := 2, pages := [9, 30] }
    (2 + 5 - 5 + 3) % 5 = 0 ∧ r.pages[0 / framesPerPage r.mask]? = some 9
    ∧ r.pages[ringPages r.mask r.pre + 0 / framesPerPage r.mask]? = some 30 ∧ 5 < r.preCount + r.postCount := by decide +kernel

/-- Ids that are not in the index, for the four requests that name a capture. -/
theorem test_not_found :
    reply .getCapture (asks 0x2A [6, 0] kept) = some (0xAA, .notFound, [])
    ∧ reply .readFrames (asks 0x2B [6, 0, 0, 0, 0, 1] kept) = some (0xAB, .notFound, [])
    ∧ reply .holdCapture (asks 0x2C [6, 0, 2] kept) = some (0xAC, .notFound, []) := by decide +kernel

/-- STATE while STOPPED and while RUNNING, and a payload too long. -/
theorem test_refusals_by_state :
    reply .armCondition (asks 0x16 [31] up) = some (0x96, .state, [])
    ∧ reply .abortUnit (asks 0x28 [3] up) = some (0xA8, .state, [])
    ∧ reply .loadSetup (asks 0x07 [] live) = some (0x87, .state, [])
    ∧ reply .saveSetup (asks 0x06 [0] live) = some (0x86, .badLength, []) := by decide +kernel

/-- Each first refusal of SET_PORT, SET_LINE and DRIVE_LINE at the ends of their ranges. -/
theorem test_meets_line_refusals :
    reply .setPort (asks 0x10 [3] up) = some (0x90, .badIndex, []) ∧ reply .setPort (asks 0x10 [2] up) = some (0x90, .badLength, [])
    ∧ reply .setLine (asks 0x21 [6] up) = some (0xA1, .badIndex, []) ∧ reply .setLine (asks 0x21 [5] up) = some (0xA1, .badLength, [])
    ∧ reply .driveLine (asks 0x23 [4, 0] up) = some (0xA3, .badIndex, [])
    ∧ reply .driveLine (asks 0x23 [3, 3] up) = some (0xA3, .badValue, []) := by decide +kernel

/-- Each refusal of the checks that come first, at the first index out of range. -/
theorem test_meets_refusals :
    reply .setMeasure (asks 0x12 [] up) = some (0x92, .badLength, [])
    ∧ reply .setMeasure (asks 0x12 [16] up) = some (0x92, .badIndex, [])
    ∧ reply .setMeasure (asks 0x12 [15] up) = some (0x92, .badLength, [])
    ∧ reply .setTimer (asks 0x19 [4, 1, 0, 0, 0, 0, 0] up) = some (0x99, .badIndex, []) := by decide +kernel

end Sys2Proof.Tests
end

namespace Sys2Proof.Machine

/-! ### The fields of the SET requests, read and laid out (R21, R41, R62, R77, R100, R114, R142, R167) -/

/-- A field of one byte holds `n` exactly when the byte is the encoding of `n`. -/
theorem within_toNat_iff {lo hi : Nat} (hh : hi ≤ 255) (b : Byte) (n : Nat) :
    within lo hi b.toNat = some n ↔ b = BitVec.ofNat 8 n ∧ lo ≤ n ∧ n ≤ hi := by
  rw [within_iff]
  refine and_congr_left fun h => ?_
  exact (byte_ofNat_iff b n (by omega)).symm

/-- A field of several bytes holds `n` exactly when the bytes are the encoding of `n`. -/
theorem within_leNat_iff {lo hi k : Nat} (hh : hi < 256 ^ k) (bs : List Byte) (hk : bs.length = k) (n : Nat) :
    within lo hi (leNat bs) = some n ↔ bs = leBytes k n ∧ lo ≤ n ∧ n ≤ hi := by
  subst hk
  rw [within_iff]
  refine and_congr_left fun h => ?_
  exact (eq_leBytes_iff bs n (by omega)).symm

theorem within_two_iff {lo hi : Nat} (hh : hi < 65536) (a b : Byte) (n : Nat) :
    within lo hi (leNat [a, b]) = some n ↔ [a, b] = leBytes 2 n ∧ lo ≤ n ∧ n ≤ hi :=
  within_leNat_iff (k := 2) hh _ rfl n

theorem within_three_iff {lo hi : Nat} (hh : hi < 16777216) (a b c : Byte) (n : Nat) :
    within lo hi (leNat [a, b, c]) = some n ↔ [a, b, c] = leBytes 3 n ∧ lo ≤ n ∧ n ≤ hi :=
  within_leNat_iff (k := 3) hh _ rfl n

/-- Three bytes are read as a lane value exactly when they are its encoding (R186). -/
theorem lane_leNat_iff (a b c : Byte) (v : Lane) :
    BitVec.ofNat 24 (leNat [a, b, c]) = v ↔ [a, b, c] = laneBytes v := by
  have hlt : leNat [a, b, c] < 256 ^ 3 := leNat_lt [a, b, c]
  have hv : v.toNat < 256 ^ 3 := by omega
  have hiff : [a, b, c] = leBytes 3 v.toNat ↔ leNat [a, b, c] = v.toNat := eq_leBytes_iff [a, b, c] v.toNat hv
  rw [laneBytes, hiff, ← BitVec.toNat_inj, BitVec.toNat_ofNat]
  omega

theorem readPort_iff (fields : List Byte) (u : PortSetup) :
    readPort fields = some u ↔ u.InRange ∧ fields = u.bytes := by
  unfold readPort
  split
  · simp only [Option.bind_eq_bind, Option.bind_eq_some_iff, Option.ite_none_right_eq_some, readYesNo_iff,
      within_toNat_iff (hi := 8) (by decide), readPitch_iff, readWidth_iff, readCode_order, readCode_edge]
    constructor
    · rintro ⟨enabled, rfl, slots, ⟨rfl, hlo, hhi⟩, pitch, rfl, width, rfl, order, rfl, delay, rfl, edge, rfl, hw, h⟩
      cases h
      exact ⟨⟨hlo, hhi, hw⟩, rfl⟩
    · rintro ⟨⟨hlo, hhi, hw⟩, h⟩
      cases h
      exact ⟨_, rfl, _, ⟨rfl, hlo, hhi⟩, _, rfl, _, rfl, _, rfl, _, rfl, _, rfl, hw, rfl⟩
  · rename_i hshape
    refine iff_of_false nofun ?_
    rintro ⟨-, rfl⟩
    exact hshape _ _ _ _ _ _ _ rfl

theorem readInterface_iff (fields : List Byte) (u : InterfaceSetup) :
    readInterface fields = some u ↔ u.InRange ∧ fields = u.bytes := by
  unfold readInterface
  split
  · simp only [Option.bind_eq_bind, Option.bind_eq_some_iff, Option.ite_none_right_eq_some, readCode_source,
      within_toNat_iff (hi := 64) (by decide), within_toNat_iff (hi := 255) (by decide),
      within_two_iff (hi := 512) (by decide)]
    constructor
    · rintro ⟨source, rfl, divider, ⟨rfl, d1, d2⟩, len, ⟨hf, l1, l2⟩, ms, ⟨rfl, m1, m2⟩, hd, h⟩
      cases h
      cases hf
      exact ⟨⟨d1, d2, hd, l1, l2, m1, m2⟩, rfl⟩
    · rintro ⟨⟨d1, d2, hd, l1, l2, m1, m2⟩, h⟩
      cases h
      exact ⟨_, rfl, _, ⟨rfl, d1, d2⟩, _, ⟨rfl, l1, l2⟩, _, ⟨rfl, m1, m2⟩, hd, rfl⟩
  · rename_i hshape
    refine iff_of_false nofun ?_
    rintro ⟨-, rfl⟩
    exact hshape _ _ _ _ _ rfl

theorem readMeasure_iff (fields : List Byte) (u : MeasureSetup) :
    readMeasure fields = some u ↔ u.InRange ∧ fields = u.bytes := by
  unfold readMeasure
  split
  · simp only [Option.bind_eq_bind, Option.bind_eq_some_iff, readYesNo_iff, readCode_kind,
      readIndex_iff 16 (by decide), within_two_iff (hi := 4096) (by decide)]
    constructor
    · rintro ⟨enabled, rfl, kind, rfl, laneA, rfl, laneB, rfl, window, ⟨hw, w1, w2⟩, h⟩
      cases h
      cases hw
      exact ⟨⟨w1, w2⟩, rfl⟩
    · rintro ⟨⟨w1, w2⟩, h⟩
      cases h
      exact ⟨_, rfl, _, rfl, _, rfl, _, rfl, _, ⟨rfl, w1, w2⟩, rfl⟩
  · rename_i hshape
    refine iff_of_false nofun ?_
    rintro ⟨-, rfl⟩
    exact hshape _ _ _ _ _ _ rfl

theorem readCondition_iff (fields : List Byte) (u : ConditionSetup) :
    readCondition fields = some u ↔ u.InRange ∧ fields = u.bytes := by
  unfold readCondition
  split
  · rename_i me te u0 u1 u2 l0 l1 l2 h0 h1 qu re la ar
    simp only [Option.bind_eq_bind, Option.bind_eq_some_iff, Option.ite_none_left_eq_some, readYesNo_iff, readCode_test,
      readIndex_iff 16 (by decide), within_toNat_iff (hi := 255) (by decide)]
    constructor
    · rintro ⟨measure, rfl, test, rfl, qualify, ⟨rfl, q1, q2⟩, release, ⟨rfl, r1, r2⟩, latched, rfl, armAtRun, rfl, ht, h⟩
      cases h
      have hh : leNat [h0, h1] < 256 ^ 2 := leNat_lt [h0, h1]
      refine ⟨⟨by simp only; omega, q1, q2, r1, r2, fun o => Int.not_lt.1 fun lt => ht ⟨o, lt⟩⟩, ?_⟩
      simp only [ConditionSetup.bytes]
      rw [← (lane_leNat_iff u0 u1 u2 _).1 rfl, ← (lane_leNat_iff l0 l1 l2 _).1 rfl,
        show leBytes 2 (leNat [h0, h1]) = [h0, h1] from leBytes_leNat [h0, h1]]
      rfl
    · rintro ⟨⟨hh, q1, q2, r1, r2, ht⟩, h⟩
      have hup : BitVec.ofNat 24 (leNat [u0, u1, u2]) = u.upper := (lane_leNat_iff _ _ _ _).2 (by cases h; rfl)
      have hlo : BitVec.ofNat 24 (leNat [l0, l1, l2]) = u.lower := (lane_leNat_iff _ _ _ _).2 (by cases h; rfl)
      have hhy : leNat [h0, h1] = u.hysteresis :=
        (eq_leBytes_iff [h0, h1] _ (by simp only [List.length_cons, List.length_nil]; omega)).1 (by cases h; rfl)
      rw [hup, hlo, hhy]
      cases h
      exact ⟨_, rfl, _, rfl, _, ⟨rfl, q1, q2⟩, _, ⟨rfl, r1, r2⟩, _, rfl, _, rfl,
        fun ⟨o, lt⟩ => Int.not_lt.2 (ht o) lt, rfl⟩
  · rename_i hshape
    refine iff_of_false nofun ?_
    rintro ⟨-, rfl⟩
    exact hshape _ _ _ _ _ _ _ _ _ _ _ _ _ _ rfl

theorem readTimer_iff (fields : List Byte) (u : TimerSetup) :
    readTimer fields = some u ↔ u.InRange ∧ fields = u.bytes := by
  unfold readTimer
  split
  · simp only [Option.bind_eq_bind, Option.bind_eq_some_iff, readYesNo_iff, readCode_mode, readCode_direction,
      within_three_iff (hi := 16777215) (by decide)]
    constructor
    · rintro ⟨period, ⟨hp, p1, p2⟩, mode, rfl, direction, rfl, startAtRun, rfl, h⟩
      cases h
      cases hp
      exact ⟨⟨p1, p2⟩, rfl⟩
    · rintro ⟨⟨p1, p2⟩, h⟩
      cases h
      exact ⟨_, ⟨rfl, p1, p2⟩, _, rfl, _, rfl, _, rfl, rfl⟩
  · rename_i hshape
    refine iff_of_false nofun ?_
    rintro ⟨-, rfl⟩
    exact hshape _ _ _ _ _ _ rfl

theorem maxTarget_le (a : Action) : a.maxTarget ≤ 255 := by cases a <;> decide

theorem readBinding_iff (fields : List Byte) (u : Binding) :
    readBinding fields = some u ↔ u.InRange ∧ fields = u.bytes := by
  unfold readBinding
  split
  · simp only [Option.bind_eq_bind, Option.bind_eq_some_iff, readYesNo_iff, readCode_action, readCode_guard,
      readIndex_iff 88 (by decide), readIndex_iff 32 (by decide), within_toNat_iff (maxTarget_le _)]
    constructor
    · rintro ⟨enabled, rfl, source, rfl, action, rfl, target, ⟨rfl, -, ht⟩, guardKind, rfl, guardCond, rfl, h⟩
      cases h
      exact ⟨ht, rfl⟩
    · rintro ⟨ht, h⟩
      cases h
      exact ⟨_, rfl, _, rfl, _, rfl, _, ⟨rfl, Nat.zero_le _, ht⟩, _, rfl, _, rfl, rfl⟩
  · rename_i hshape
    refine iff_of_false nofun ?_
    rintro ⟨-, rfl⟩
    exact hshape _ _ _ _ _ _ rfl

theorem readOutput_iff (fields : List Byte) (u : OutputSetup) : readOutput fields = some u ↔ fields = u.bytes := by
  unfold readOutput
  split
  · simp only [Option.bind_eq_bind, Option.bind_eq_some_iff, readCode_lineMode, readCode_polarity,
      readIndex_iff 32 (by decide)]
    constructor
    · rintro ⟨mode, rfl, condition, rfl, polarity, rfl, h⟩
      cases h
      rfl
    · intro h
      cases h
      exact ⟨_, rfl, _, rfl, _, rfl, rfl⟩
  · rename_i hshape
    refine iff_of_false nofun ?_
    rintro rfl
    exact hshape _ _ _ rfl

/-- A lane mask that is not 0 is the 16-bit word of a number in the range of its field (R142). -/
theorem mask_field (m : Nat) (h1 : 1 ≤ m) (h2 : m ≤ 65535) :
    BitVec.ofNat 16 m ≠ 0 ∧ (BitVec.ofNat 16 m).toNat = m := by
  have e : (BitVec.ofNat 16 m).toNat = m := by rw [BitVec.toNat_ofNat]; omega
  refine ⟨fun z => ?_, e⟩
  rw [z] at e
  exact absurd e (by simp; omega)

theorem readUnit_iff (fields : List Byte) (u : UnitSetup) :
    readUnit fields = some u ↔ u.InRange ∧ fields = u.bytes := by
  unfold readUnit
  split
  · simp only [Option.bind_eq_bind, Option.bind_eq_some_iff, readYesNo_iff, readCode_retrigger, readCode_full,
      within_two_iff (hi := 65535) (by decide), within_two_iff (hi := 4095) (by decide)]
    constructor
    · rintro ⟨m, ⟨hm, m1, m2⟩, pre, ⟨hpre, -, p2⟩, post, ⟨hpost, q1, q2⟩, retrigger, rfl, full, rfl, autoRearm, rfl,
        armAtRun, rfl, h⟩
      obtain ⟨hne, hnat⟩ := mask_field m m1 m2
      cases h
      cases hpre
      cases hpost
      refine ⟨⟨hne, p2, q1, q2⟩, ?_⟩
      simp only [UnitSetup.bytes]
      rw [hnat, ← hm]
      rfl
    · rintro ⟨⟨hne, p2, q1, q2⟩, h⟩
      have hm : 1 ≤ u.mask.toNat := Nat.pos_of_ne_zero fun z => hne (BitVec.eq_of_toNat_eq z)
      have hlt : u.mask.toNat < 65536 := u.mask.isLt
      cases h
      refine ⟨_, ⟨rfl, hm, by omega⟩, _, ⟨rfl, Nat.zero_le _, p2⟩, _, ⟨rfl, q1, q2⟩, _, rfl, _, rfl, _, rfl, _, rfl, ?_⟩
      rw [BitVec.ofNat_toNat, BitVec.setWidth_eq]
  · rename_i hshape
    refine iff_of_false nofun ?_
    rintro ⟨-, rfl⟩
    exact hshape _ _ _ _ _ _ _ _ _ _ rfl

theorem readStore_iff (fields : List Byte) (u : StoreSetup) :
    readStore fields = some u ↔ u.lowWater ≤ 255 ∧ fields = u.bytes := by
  unfold readStore
  split
  · rename_i lw po
    simp only [Option.bind_eq_bind, Option.bind_eq_some_iff, readCode_policy]
    constructor
    · rintro ⟨policy, rfl, h⟩
      cases h
      have hlt : lw.toNat < 256 := lw.isLt
      refine ⟨Nat.le_of_lt_succ hlt, ?_⟩
      simp [StoreSetup.bytes]
    · rintro ⟨hl, h⟩
      have hlw : lw.toNat = u.lowWater := (byte_ofNat_iff lw _ (by omega)).1 (by cases h; rfl)
      rw [hlw]
      cases h
      exact ⟨_, rfl, rfl⟩
  · rename_i hshape
    refine iff_of_false nofun ?_
    rintro ⟨-, rfl⟩
    exact hshape _ _ rfl

/-- Settles O15: each reader accepts exactly the encodings, reader by reader. -/
theorem setupFieldsReadExactly : Obligations.SetupFieldsReadExactly :=
  ⟨readPort_iff, readInterface_iff, readMeasure_iff, readCondition_iff, readTimer_iff, readBinding_iff, readOutput_iff,
    readUnit_iff, readStore_iff⟩

end Sys2Proof.Machine

namespace Sys2Proof.Machine

/-! ### Relations that the units' work and the stream keep

Each composite operation is made of a few base operations. A relation that these keep, the composite keeps: said once here, for every relation. -/

/-- A relation from the state before to the state after, kept by each base operation of the units' work: an event raised, a notice queued, a unit's record written, the store changed. -/
structure UnitClosed (P : State → State → Prop) : Prop where
  refl    : ∀ s, P s s
  trans   : ∀ {s t u}, P s t → P t u → P s u
  raise   : ∀ id s, P s (s.raise id)
  notify  : ∀ n s, P s (s.notify n)
  setUnit : ∀ k u s, P s (s.setUnitState k u)
  store   : ∀ st s, P s { s with store := st }

namespace UnitClosed

variable {P : State → State → Prop} (h : UnitClosed P)
include h

theorem foldl {α : Type} {f : State → α → State} (hf : ∀ s x, P s (f s x)) (xs : List α) (s : State) :
    P s (xs.foldl f s) := by
  induction xs generalizing s with
  | nil => exact h.refl s
  | cons x xs ih => exact h.trans (hf s x) (ih _)

theorem giveBack (pages : List Page) (s : State) : P s (s.giveBack pages) := h.store _ s

theorem claim {k : Nat} {s t : State} {pages : List Page} (e : s.claim k = some (pages, t)) : P s t := by
  unfold State.claim at e
  split at e
  · cases e
    split
    · exact h.trans (h.store _ s) (h.raise _ _)
    · exact h.store _ s
  · cases e

theorem tryArm {k : Fin 4} {s t : State} (e : s.tryArm k = some t) : P s t := by
  unfold State.tryArm at e
  split at e
  · rename_i granted
    cases e
    exact h.trans (h.claim granted) (h.setUnit _ _ _)
  · cases e

theorem armOrReport (k : Fin 4) (cause : ArmCause) (frame : FrameNumber) (s : State) :
    P s (s.armOrReport k cause frame) := by
  unfold State.armOrReport
  split
  · exact h.tryArm (by assumption)
  · exact h.notify _ s

theorem armUnitBy (k : Fin 4) (cause : ArmCause) (frame : FrameNumber) (s : State) :
    P s (s.armUnitBy k cause frame) := by
  unfold State.armUnitBy
  split
  · exact h.armOrReport k cause frame s
  all_goals exact h.refl s

theorem triggerUnitBy (k : Fin 4) (source : Byte) (word : BitVec 32) (frame : Option FrameNumber) (s : State) :
    P s (s.triggerUnitBy k source word frame) := by
  unfold State.triggerUnitBy
  split
  · exact h.refl s
  · exact h.trans (h.setUnit _ _ _) (h.raise _ _)
  · exact h.trans (h.setUnit _ _ _) (h.raise _ _)
  · exact h.setUnit _ _ _

theorem dropCapture (r : CaptureRecord) (s : State) : P s (s.dropCapture r) := h.trans (h.giveBack _ s) (h.notify _ _)

theorem keepOrDrop (r : CaptureRecord) (s : State) : P s (s.keepOrDrop r).1 := by
  unfold State.keepOrDrop
  split
  · exact h.store _ s
  · split
    · exact h.dropCapture r s
    · split
      · exact h.trans (h.trans (h.store _ s) (h.notify _ (s.removeRecord _))) (h.store _ _)
      · exact h.dropCapture r s

theorem handOver (r : CaptureRecord) (s : State) : P s (s.handOver r).1 :=
  h.trans (h.store _ s) (h.keepOrDrop _ _)

theorem closeCapture (k : Fin 4) (s : State) : P s (s.closeCapture k) := by
  have closed : P s (State.raise (evClosed k) ((s.setUnitState k clearedUnit).handOver (captureRecord k s)).1) :=
    h.trans (h.trans (h.setUnit _ _ s) (h.handOver _ _)) (h.raise _ _)
  unfold State.closeCapture
  dsimp only
  split
  · exact h.trans closed (h.notify _ _)
  · exact closed

theorem flagAndClose (k : Fin 4) (f : CaptureFlags → CaptureFlags) (s : State) :
    P s ((s.flagUnit k f).closeCapture k) := h.trans (h.setUnit _ _ s) (h.closeCapture k _)

theorem discardCapture (k : Fin 4) (s : State) : P s (s.discardCapture k) :=
  h.trans (h.trans (h.trans (h.setUnit _ _ s) (h.giveBack _ _)) (h.notify _ _)) (h.raise _ _)

theorem rearm (k : Fin 4) (frame : FrameNumber) (s : State) : P s (s.rearm k frame) := by
  unfold State.rearm
  split
  · exact h.armUnitBy k _ frame s
  · exact h.refl s

theorem giveUp (k : Fin 4) (s : State) : P s (s.giveUp k) := h.trans (h.setUnit _ _ s) (h.giveBack _ _)

theorem abortUnitBy (k : Fin 4) (s : State) : P s (s.abortUnitBy k) := by
  unfold State.abortUnitBy
  split
  · exact h.refl s
  · exact h.giveUp k s
  · exact h.giveUp k s
  · exact h.flagAndClose k _ s

theorem stopUnit (k : Fin 4) (s : State) : P s (s.stopUnit k) := by
  unfold State.stopUnit
  split
  · exact h.refl s
  · exact h.giveUp k s
  · exact h.giveUp k s
  · exact h.flagAndClose k _ s

/-- A frame stored in the page that is found, when there is one. -/
theorem writeFrame (pg : Option Page) (pos : Nat) (mask : BitVec 16) (s : State) :
    P s (match pg with | some p => s.writeFrame p pos mask | none => s) := by
  cases pg with
  | none => exact h.refl s
  | some p => exact h.store _ s

theorem storeHistory (k : Fin 4) (f : FrameNumber) (s : State) : P s (s.storeHistory k f) := by
  unfold State.storeHistory
  dsimp only
  split
  · exact h.refl s
  · exact h.trans (h.writeFrame _ _ _ s) (h.setUnit _ _ _)

theorem storePost (k : Fin 4) (f : FrameNumber) (s : State) : P s (s.storePost k f) := by
  unfold State.storePost
  dsimp only
  split
  · exact h.trans (h.trans (h.trans (h.writeFrame _ _ _ s) (h.setUnit _ _ _)) (h.closeCapture k _)) (h.rearm k f _)
  · exact h.trans (h.writeFrame _ _ _ s) (h.setUnit _ _ _)

theorem pageRefused (k : Fin 4) (f : FrameNumber) (s : State) : P s (s.pageRefused k f) := by
  unfold State.pageRefused
  split
  · exact h.trans (h.flagAndClose k _ s) (h.rearm k f _)
  · exact h.trans (h.discardCapture k s) (h.rearm k f _)

theorem handlePost (k : Fin 4) (f : FrameNumber) (s : State) : P s (s.handlePost k f) := by
  unfold State.handlePost
  split
  · split
    · rename_i e
      exact h.trans (h.trans (h.claim e) (h.setUnit _ _ _)) (h.storePost k f _)
    · exact h.pageRefused k f s
  · exact h.storePost k f s

theorem handleFrame (k : Fin 4) (f : FrameNumber) (s : State) : P s (s.handleFrame k f) := by
  unfold State.handleFrame
  split
  · exact h.refl s
  · exact h.storeHistory k f s
  · exact h.storeHistory k f s
  · exact h.handlePost k f s

theorem unitAction (fired : List (Fin 48)) (frame : FrameNumber) (word : BitVec 32) (k : Fin 4) (s : State) :
    P s (s.unitAction fired frame word k) := by
  unfold State.unitAction
  split
  · exact h.abortUnitBy k s
  · exact h.triggerUnitBy k _ _ _ s
  · exact h.armUnitBy k _ _ s
  · exact h.refl s

theorem unitWork (fired : List (Fin 48)) (frame : FrameNumber) (word : BitVec 32) (s : State) (k : Fin 4) :
    P s (s.unitWork fired frame word k) :=
  h.trans (h.unitAction fired frame word k s) (h.handleFrame k frame _)

theorem armAtRun (s : State) (k : Fin 4) : P s (s.armAtRun k) := by
  unfold State.armAtRun
  split
  · exact h.armUnitBy k _ _ s
  · exact h.refl s

end UnitClosed

/-- A relation from the state before to the state after, kept by each base operation of the stream: an event raised, a notice queued, the interface, the timers or the units written. -/
structure StreamClosed (P : State → State → Prop) : Prop where
  refl   : ∀ s, P s s
  trans  : ∀ {s t u}, P s t → P t u → P s u
  raise  : ∀ id s, P s (s.raise id)
  notify : ∀ n s, P s (s.notify n)
  iface  : ∀ i s, P s { s with iface := i }
  timers : ∀ ts s, P s { s with timers := ts }
  units  : ∀ us s, P s { s with units := us }

namespace StreamClosed

variable {P : State → State → Prop} (h : StreamClosed P)
include h

theorem foldl {α : Type} {f : State → α → State} (hf : ∀ s x, P s (f s x)) (xs : List α) (s : State) :
    P s (xs.foldl f s) := by
  induction xs generalizing s with
  | nil => exact h.refl s
  | cons x xs ih => exact h.trans (hf s x) (ih _)

theorem advanceTimers (s : State) : P s s.advanceTimers :=
  h.trans (h.timers _ s) (h.foldl (fun a t => h.raise (evExpire t) a) _ _)

/-- A fault of the stream: the interface written, the event raised, the notice queued. -/
theorem fault (i : FrameInterface) (id : EventId) (n : Notice) (s : State) :
    P s ((State.raise id { s with iface := i }).notify n) :=
  h.trans (h.trans (h.iface i s) (h.raise id _)) (h.notify n _)

theorem endFrame (s : State) : P s s.endFrame := by
  unfold State.endFrame
  split
  · exact h.fault _ _ _ s
  · split
    · exact h.fault _ _ _ s
    · exact h.iface _ s

theorem startFrame (s : State) : P s s.startFrame := h.iface _ s

theorem boundary (s : State) : P s s.boundary :=
  h.trans (h.trans (h.trans (h.iface _ s) (h.advanceTimers _)) (h.endFrame _)) (h.startFrame _)

theorem syncEdge (s : State) : P s s.syncEdge := by
  unfold State.syncEdge
  split
  · exact h.refl s
  · exact h.iface _ s
  · exact h.fault _ _ _ s
  · split
    · exact h.startFrame s
    · exact h.boundary s

theorem judgeSync (e : SckEdge) (s : State) : P s (s.judgeSync e) := by
  unfold State.judgeSync
  dsimp only
  split
  · split
    · exact h.trans (h.iface _ s) (h.syncEdge _)
    · exact h.iface _ s
  · exact h.refl s

theorem shiftIn (e : SckEdge) (s : State) : P s (s.shiftIn e) := by
  unfold State.shiftIn
  split
  · exact h.refl s
  · exact h.refl s
  · exact h.refl s
  · split
    · exact h.refl s
    · exact h.iface _ s

theorem clock (e : SckEdge) (s : State) : P s (s.clock e) := by
  have sampled : P s (((s.noteSck e).judgeSync e).shiftIn e) :=
    h.trans (h.trans (h.iface _ s) (h.judgeSync e _)) (h.shiftIn e _)
  unfold State.clock
  split
  · exact h.refl s
  all_goals exact sampled

theorem clockAll (edges : List SckEdge) (s : State) : P s (s.clockAll edges) := h.foldl (fun a e => h.clock e a) edges s

theorem loseSync (s : State) : P s s.loseSync :=
  h.trans (h.trans (h.trans (h.units (tab fun k => s.units[k].interrupt) s) (h.iface _ _)) (h.raise _ _)) (h.notify _ _)

theorem quiet (periods : Nat) (s : State) : P s (s.quiet periods) := by
  unfold State.quiet
  split
  · exact h.refl s
  · split
    · exact h.loseSync s
    · exact h.iface _ s

end StreamClosed

end Sys2Proof.Machine

namespace Sys2Proof.Machine

/-! ### Requests: what each one can leave of the state -/

/-- A property that the effect of a request and the settling of its answer keep, its row keeps. -/
theorem serve_keeps {P : State → Prop} {act : List Byte → State → State × Answer} {s : State} (kind : Byte)
    (answer : ∀ a t, P t → P (t.answer a)) (effect : ∀ p, P (act p s).1) (hs : P s) : P (serve kind act s) := by
  unfold serve State.onRequest
  split
  · split
    · exact answer _ _ (effect _)
    · exact hs
  · exact hs

theorem onRequest_keeps {P : State → Prop} {is : Byte → Bool} {f : Request → State → State} {s : State}
    (effect : ∀ q, s.current = some q → P (f q s)) (hs : P s) : P (s.onRequest is f) := by
  unfold State.onRequest
  split
  · split
    · exact effect _ (by assumption)
    · exact hs
  · exact hs

theorem identifyRequest_state (p : List Byte) (s : State) : (identifyRequest p s).1 = s := by
  unfold identifyRequest; split <;> rfl

theorem getPort_state (p : List Byte) (s : State) : (getPort p s).1 = s := by
  unfold getPort; repeat' split
  all_goals rfl

theorem getMeasure_state (p : List Byte) (s : State) : (getMeasure p s).1 = s := by
  unfold getMeasure; repeat' split
  all_goals rfl

theorem getCondition_state (p : List Byte) (s : State) : (getCondition p s).1 = s := by
  unfold getCondition; repeat' split
  all_goals rfl

theorem getTimer_state (p : List Byte) (s : State) : (getTimer p s).1 = s := by
  unfold getTimer; repeat' split
  all_goals rfl

theorem getBinding_state (p : List Byte) (s : State) : (getBinding p s).1 = s := by
  unfold getBinding; repeat' split
  all_goals rfl

theorem getLines_state (p : List Byte) (s : State) : (getLines p s).1 = s := by
  unfold getLines; split <;> rfl

theorem getUnit_state (p : List Byte) (s : State) : (getUnit p s).1 = s := by
  unfold getUnit; repeat' split
  all_goals rfl

theorem listCaptures_state (p : List Byte) (s : State) : (listCaptures p s).1 = s := by
  unfold listCaptures; split <;> rfl

theorem getCapture_state (p : List Byte) (s : State) : (getCapture p s).1 = s := by
  unfold getCapture; repeat' split
  all_goals rfl

theorem readFrames_state (p : List Byte) (s : State) : (readFrames p s).1 = s := by
  unfold readFrames
  split
  · split
    · rfl
    · dsimp only
      split <;> rfl
  · rfl

theorem getStore_state (p : List Byte) (s : State) : (getStore p s).1 = s := by
  unfold getStore; split <;> rfl

/-- R21, R8: SET_PORT writes one port or the interface, in range and under the PROVIDER check, while STOPPED. -/
theorem setPort_cases (p : List Byte) (s : State) :
    (setPort p s).1 = s
      ∨ ∃ u : Setup, s.engine = .stopped ∧ u.providerFits = true ∧ (setPort p s).1 = { s with setup := u }
          ∧ ((∃ a : PortSetup, a.InRange ∧ u = { s.setup with portA := a })
            ∨ (∃ b : PortSetup, b.InRange ∧ u = { s.setup with portB := b })
            ∨ ∃ i : InterfaceSetup, i.InRange ∧ u = { s.setup with interface := i }) := by
  have written : ∀ o : Option Setup, (writePorts o s).1 = s
      ∨ ∃ u, o = some u ∧ s.engine = .stopped ∧ u.providerFits = true ∧ (writePorts o s).1 = { s with setup := u } := by
    intro o
    unfold writePorts
    split
    · exact .inl rfl
    · rename_i he
      cases o with
      | none => exact .inl rfl
      | some u =>
        dsimp only
        split
        · exact .inr ⟨u, rfl, not_not.1 he, by assumption, rfl⟩
        · exact .inl rfl
  unfold setPort
  split
  · exact .inl rfl
  · split
    · exact .inl rfl
    · split
      · exact .inl rfl
      · refine (written _).imp_right ?_
        rintro ⟨u, hu, he, hf, ht⟩
        obtain ⟨a, ha, rfl⟩ := Option.map_eq_some_iff.1 hu
        exact ⟨_, he, hf, ht, .inl ⟨a, ((readPort_iff _ _).1 ha).1, rfl⟩⟩
    · split
      · exact .inl rfl
      · refine (written _).imp_right ?_
        rintro ⟨u, hu, he, hf, ht⟩
        obtain ⟨b, hb, rfl⟩ := Option.map_eq_some_iff.1 hu
        exact ⟨_, he, hf, ht, .inr (.inl ⟨b, ((readPort_iff _ _).1 hb).1, rfl⟩)⟩
    · split
      · exact .inl rfl
      · refine (written _).imp_right ?_
        rintro ⟨u, hu, he, hf, ht⟩
        obtain ⟨i, hi, rfl⟩ := Option.map_eq_some_iff.1 hu
        exact ⟨_, he, hf, ht, .inr (.inr ⟨i, ((readInterface_iff _ _).1 hi).1, rfl⟩)⟩

/-- R41, R40. -/
theorem setMeasure_cases (p : List Byte) (s : State) :
    (setMeasure p s).1 = s
      ∨ ∃ (m : Fin 16) (u : MeasureSetup), s.engine = .stopped ∧ u.InRange
          ∧ (setMeasure p s).1 =
              { s with
                setup := { s.setup with measures := put s.setup.measures m u }
                measures := put s.measures m clearedMeasure } := by
  unfold setMeasure
  split
  · exact .inl rfl
  · split
    · exact .inl rfl
    · rename_i m _
      split
      · exact .inl rfl
      · split
        · exact .inl rfl
        · rename_i he
          split
          · exact .inl rfl
          · rename_i u hu
            exact .inr ⟨m, u, not_not.1 he, ((readMeasure_iff _ _).1 hu).1, rfl⟩

/-- R62. -/
theorem setCondition_cases (p : List Byte) (s : State) :
    (setCondition p s).1 = s
      ∨ ∃ (c : Fin 32) (u : ConditionSetup), s.conditions[c].phase = .disarmed ∧ u.InRange
          ∧ (setCondition p s).1 =
              { s with
                setup := { s.setup with conditions := put s.setup.conditions c u }
                conditions := put s.conditions c { s.conditions[c] with runCount := 0 } } := by
  unfold setCondition
  split
  · exact .inl rfl
  · split
    · exact .inl rfl
    · rename_i c _
      split
      · exact .inl rfl
      · split
        · exact .inl rfl
        · rename_i hd
          split
          · exact .inl rfl
          · rename_i u hu
            exact .inr ⟨c, u, not_not.1 hd, ((readCondition_iff _ _).1 hu).1, rfl⟩

/-- R77. -/
theorem setTimer_cases (p : List Byte) (s : State) :
    (setTimer p s).1 = s
      ∨ ∃ (t : Fin 4) (u : TimerSetup), s.timers[t].phase = .idle ∧ u.InRange
          ∧ (setTimer p s).1 =
              { s with
                setup := { s.setup with timers := put s.setup.timers t u }
                timers := put s.timers t { s.timers[t] with count := 0 } } := by
  unfold setTimer
  split
  · exact .inl rfl
  · split
    · exact .inl rfl
    · rename_i t _
      split
      · exact .inl rfl
      · split
        · exact .inl rfl
        · rename_i hi
          split
          · exact .inl rfl
          · rename_i u hu
            exact .inr ⟨t, u, not_not.1 hi, ((readTimer_iff _ _).1 hu).1, rfl⟩

/-- R100. -/
theorem setBinding_cases (p : List Byte) (s : State) :
    (setBinding p s).1 = s
      ∨ ∃ (b : Fin 48) (r : Binding), r.InRange
          ∧ (setBinding p s).1 = { s with setup := { s.setup with bindings := put s.setup.bindings b r } } := by
  unfold setBinding
  split
  · exact .inl rfl
  · split
    · exact .inl rfl
    · rename_i b _
      split
      · exact .inl rfl
      · split
        · exact .inl rfl
        · rename_i r hr
          exact .inr ⟨b, r, ((readBinding_iff _ _).1 hr).1, rfl⟩

/-- R142. -/
theorem setUnit_cases (p : List Byte) (s : State) :
    (setUnit p s).1 = s
      ∨ ∃ (k : Fin 4) (u : UnitSetup), s.units[k].phase = .idle ∧ u.InRange
          ∧ (setUnit p s).1 =
              State.setUnitState k clearedUnit { s with setup := { s.setup with units := put s.setup.units k u } } := by
  unfold setUnit
  split
  · exact .inl rfl
  · split
    · exact .inl rfl
    · rename_i k _
      split
      · exact .inl rfl
      · split
        · exact .inl rfl
        · rename_i hi
          split
          · exact .inl rfl
          · rename_i u hu
            split
            · exact .inl rfl
            · exact .inr ⟨k, u, not_not.1 hi, ((readUnit_iff _ _).1 hu).1, rfl⟩

/-- R114, R113: SET_LINE writes one output's setup, or one input's filter time, which takes effect at once. -/
theorem setLine_cases (p : List Byte) (s : State) :
    (setLine p s).1 = s
      ∨ (∃ (o : Fin 4) (u : OutputSetup),
          (setLine p s).1 = { s with setup := { s.setup with outputs := put s.setup.outputs o u } })
      ∨ ∃ (i : Fin 2) (f : Nat), f ≤ 255
          ∧ (setLine p s).1 = State.refilter i { s with setup := { s.setup with filters := put s.setup.filters i f } } := by
  unfold setLine
  split
  · exact .inl rfl
  · split
    · rename_i o _
      unfold setOutput
      split
      · exact .inl rfl
      · split
        · exact .inl rfl
        · exact .inr (.inl ⟨o, _, rfl⟩)
    · split
      · rename_i i _
        unfold setInput
        split
        · rename_i f
          exact .inr (.inr ⟨i, f.toNat, Nat.le_of_lt_succ f.isLt, rfl⟩)
        · exact .inl rfl
      · exact .inl rfl

/-- R167, R154. -/
theorem setStore_cases (p : List Byte) (s : State) :
    (setStore p s).1 = s
      ∨ ∃ u : StoreSetup, u.lowWater ≤ 255
          ∧ (setStore p s).1 = State.markLow { s with setup := { s.setup with store := u } } := by
  unfold setStore
  split
  · exact .inl rfl
  · split
    · exact .inl rfl
    · rename_i u hu
      exact .inr ⟨u, ((readStore_iff _ _).1 hu).1, rfl⟩

/-- R197. -/
theorem autorunRequest_cases (p : List Byte) (s : State) :
    (autorunRequest p s).1 = s ∨ ∃ b, (autorunRequest p s).1 = { s with setup := { s.setup with autoRun := b } } := by
  unfold autorunRequest
  split
  · split
    · exact .inl rfl
    · exact .inr ⟨_, rfl⟩
  · exact .inl rfl

/-- R197. -/
theorem defaultRequest_cases (p : List Byte) (s : State) :
    (defaultRequest p s).1 = s
      ∨ s.engine = .stopped ∧ (defaultRequest p s).1 = s.takeUp Sys2Proof.Machine.defaultSetup := by
  unfold defaultRequest
  split
  · split
    · exact .inl rfl
    · exact .inr ⟨by assumption, rfl⟩
  · exact .inl rfl

/-- R190. -/
theorem runRequest_cases (p : List Byte) (s : State) :
    (runRequest p s).1 = s
      ∨ s.engine = .stopped ∧ runChecks s.setup = none ∧ (runRequest p s).1 = s.startRun := by
  unfold runRequest
  split
  · split
    · exact .inl rfl
    · split
      · exact .inl rfl
      · exact .inr ⟨by assumption, by assumption, rfl⟩
  · exact .inl rfl

/-- R192. -/
theorem stopRequest_cases (p : List Byte) (s : State) :
    (stopRequest p s).1 = s ∨ s.engine = .running ∧ (stopRequest p s).1 = s.stopEngine := by
  unfold stopRequest
  split
  · split
    · exact .inl rfl
    · exact .inr ⟨by assumption, rfl⟩
  · exact .inl rfl

/-- R185. -/
theorem statusRequest_cases (p : List Byte) (s : State) :
    (statusRequest p s).1 = s ∨ (statusRequest p s).1 = { s with link := s.link.clearCounts } := by
  unfold statusRequest
  split
  · split
    · exact .inl rfl
    · exact .inr rfl
    · exact .inl rfl
  · exact .inl rfl

/-- R60. -/
theorem conditionRequest_cases (op : ConditionSetup → ConditionState → ConditionState) (p : List Byte) (s : State) :
    (conditionRequest op p s).1 = s
      ∨ ∃ c, s.engine = .running ∧ (conditionRequest op p s).1 = s.onCondition op c := by
  unfold conditionRequest
  split
  · split
    · exact .inl rfl
    · split
      · exact .inl rfl
      · exact .inr ⟨_, by assumption, rfl⟩
  · exact .inl rfl

/-- R75. -/
theorem timerRequest_cases (op : TimerSetup → TimerState → TimerState) (p : List Byte) (s : State) :
    (timerRequest op p s).1 = s ∨ ∃ t, s.engine = .running ∧ (timerRequest op p s).1 = s.onTimer op t := by
  unfold timerRequest
  split
  · split
    · exact .inl rfl
    · split
      · exact .inl rfl
      · exact .inr ⟨_, by assumption, rfl⟩
  · exact .inl rfl

/-- R102. -/
theorem fire_cases (p : List Byte) (s : State) :
    (fire p s).1 = s
      ∨ ∃ ns : List (Fin 4), s.engine = .running ∧ (fire p s).1 = ns.foldl (fun a n => a.raise (evSoft n)) s := by
  unfold fire
  split
  · split
    · exact .inl rfl
    · split
      · exact .inl rfl
      · exact .inr ⟨_, by assumption, rfl⟩
  · exact .inl rfl

/-- R110. -/
theorem driveLine_cases (p : List Byte) (s : State) :
    (driveLine p s).1 = s ∨ ∃ op o, (driveLine p s).1 = s.onLine op o := by
  unfold driveLine
  split
  · split
    · exact .inl rfl
    · split
      · exact .inl rfl
      · exact .inr ⟨_, _, rfl⟩
  · exact .inl rfl

/-- R144: a unit request leaves the state, or acts on one unit while RUNNING. -/
theorem unitRequest_cases (act : Fin 4 → State → State × Answer) (p : List Byte) (s : State) :
    (unitRequest act p s).1 = s ∨ ∃ k, s.engine = .running ∧ (unitRequest act p s).1 = (act k s).1 := by
  unfold unitRequest
  split
  · split
    · exact .inl rfl
    · split
      · exact .inl rfl
      · exact .inr ⟨_, by assumption, rfl⟩
  · exact .inl rfl

/-- R144: ARM_UNIT arms an IDLE unit whose pages are free. -/
theorem armRequest_cases (k : Fin 4) (s : State) :
    (armRequest k s).1 = s ∨ s.units[k].phase = .idle ∧ s.tryArm k = some (armRequest k s).1 := by
  unfold armRequest
  split
  · exact .inl rfl
  · rename_i hi
    split
    · rename_i t ht
      exact .inr ⟨not_not.1 hi, ht⟩
    · exact .inl rfl

theorem triggerRequest_cases (k : Fin 4) (s : State) :
    (triggerRequest k s).1 = s
      ∨ s.units[k].phase ≠ .idle
        ∧ (triggerRequest k s).1 = s.triggerUnitBy k 255 (conditionWord s.conditions) none := by
  unfold triggerRequest
  split
  · exact .inl rfl
  · exact .inr ⟨by assumption, rfl⟩

theorem abortRequest_cases (k : Fin 4) (s : State) :
    (abortRequest k s).1 = s ∨ s.units[k].phase ≠ .idle ∧ (abortRequest k s).1 = s.abortUnitBy k := by
  unfold abortRequest
  split
  · exact .inl rfl
  · exact .inr ⟨by assumption, rfl⟩

/-- R164. -/
theorem holdCapture_cases (p : List Byte) (s : State) :
    (holdCapture p s).1 = s
      ∨ ∃ r ∈ s.store.index, ∃ mark,
          (holdCapture p s).1 = { s with store := { s.store with index := markHeld r.id mark s.store.index } } := by
  unfold holdCapture
  split
  · split
    · exact .inl rfl
    · rename_i r hr
      split
      · exact .inl rfl
      · exact .inr ⟨r, List.mem_of_find?_eq_some hr, _, rfl⟩
  · exact .inl rfl

/-- R165. -/
theorem releaseCapture_cases (p : List Byte) (s : State) :
    (releaseCapture p s).1 = s ∨ ∃ r ∈ s.store.index, (releaseCapture p s).1 = s.removeRecord r := by
  unfold releaseCapture
  split
  · split
    · exact .inl rfl
    · rename_i r hr
      exact .inr ⟨r, List.mem_of_find?_eq_some hr, rfl⟩
  · exact .inl rfl

end Sys2Proof.Machine

namespace Sys2Proof.Machine

/-! ### What the units and the stream leave of the setups and of the requests -/

/-- From `s` to `t` the working setup, the image, the requests, the dispatcher and the replies stand. -/
structure ControlStands (s t : State) : Prop where
  setup      : t.setup = s.setup
  image      : t.image = s.image
  requests   : t.link.requests = s.link.requests
  dispatcher : t.link.dispatcher = s.link.dispatcher
  replies    : t.link.replies = s.link.replies

theorem ControlStands.refl (s : State) : ControlStands s s := ⟨rfl, rfl, rfl, rfl, rfl⟩

theorem ControlStands.trans {s t u : State} (h : ControlStands s t) (g : ControlStands t u) : ControlStands s u :=
  ⟨g.setup.trans h.setup, g.image.trans h.image, g.requests.trans h.requests, g.dispatcher.trans h.dispatcher,
    g.replies.trans h.replies⟩

theorem notify_controlStands (n : Notice) (s : State) : ControlStands s (s.notify n) :=
  ⟨rfl, rfl, Link.offerNotice_requests n s.link, Link.offerNotice_dispatcher n s.link, Link.offerNotice_replies n s.link⟩

theorem raise_controlStands (id : EventId) (s : State) : ControlStands s (s.raise id) := by constructor <;> simp

theorem controlStands_unitClosed : UnitClosed ControlStands where
  refl := ControlStands.refl
  trans := ControlStands.trans
  raise := raise_controlStands
  notify := notify_controlStands
  setUnit _ _ _ := ⟨rfl, rfl, rfl, rfl, rfl⟩
  store _ _ := ⟨rfl, rfl, rfl, rfl, rfl⟩

theorem controlStands_streamClosed : StreamClosed ControlStands where
  refl := ControlStands.refl
  trans := ControlStands.trans
  raise := raise_controlStands
  notify := notify_controlStands
  iface _ _ := ⟨rfl, rfl, rfl, rfl, rfl⟩
  timers _ _ := ⟨rfl, rfl, rfl, rfl, rfl⟩
  units _ _ := ⟨rfl, rfl, rfl, rfl, rfl⟩

theorem OnlyInputs.controlStands {s t : State} (h : OnlyInputs s t) : ControlStands s t := by
  constructor <;> simp only [h.setup, h.image, h.link]

theorem OnlyConditions.controlStands {s t : State} (h : OnlyConditions s t) : ControlStands s t := by
  constructor <;> simp only [h.setup, h.image, h.link]

theorem OnlyTimers.controlStands {s t : State} (h : OnlyTimers s t) : ControlStands s t := by
  constructor <;> simp only [h.setup, h.image, h.link]

theorem OnlyLevels.controlStands {s t : State} (h : OnlyLevels s t) : ControlStands s t := by
  constructor <;> simp only [h.setup, h.image, h.link]

theorem noticeSent_controlStands (s : State) : ControlStands s s.noticeSent := by
  obtain ⟨hreq, hdisp, hrep, -⟩ := Link.noticeSent_queues s.link
  exact ⟨rfl, rfl, hreq, hdisp, hrep⟩

/-- R16, R96: the work of a frame, whatever falls into it, leaves the setups and the requests alone. -/
theorem workFrame_controlStands (f : HeldFrame) (during : List StreamEvent) (s : State) :
    ControlStands s (s.workFrame f during) := by
  have taken : ControlStands s ((s.beginTake f).updateMeasures).evaluate := by
    constructor <;> simp [State.beginTake]
  rw [workFrame_stages]
  refine (taken.trans ((conditionActions_only (s.firedAt f) _).controlStands.trans
    (lineActions_only (s.firedAt f) _).controlStands)).trans ?_
  exact interleave_keeps _ _ _ ControlStands.refl (fun _ _ _ => ControlStands.trans) controlStands_streamClosed.clock
    controlStands_streamClosed.quiet noticeSent_controlStands (fun t s => (timerAction_only _ t s).controlStands)
    (fun _ _ => notify_controlStands _ _) (fun k s => controlStands_unitClosed.unitWork _ _ _ s k) _ _ _ _ _

theorem startRun_controlStands (s : State) : ControlStands s s.startRun := by
  have prepared : ControlStands s s.prepareRun := ⟨rfl, rfl, rfl, rfl, rfl⟩
  have armed := prepared.trans (controlStands_unitClosed.foldl controlStands_unitClosed.armAtRun (List.finRange 4) _)
  exact armed.trans (controlStands_streamClosed.iface _ _)

theorem stopEngine_controlStands (s : State) : ControlStands s s.stopEngine := by
  have halted : ControlStands s s.haltBlocks := ⟨rfl, rfl, rfl, rfl, rfl⟩
  exact halted.trans (controlStands_unitClosed.foldl (fun a k => controlStands_unitClosed.stopUnit k a) _ _)

theorem comeUp_controlStands (cause : ReadyCause) (s : State) : ControlStands s (s.comeUp cause) := by
  unfold State.comeUp
  dsimp only
  split
  · exact (notify_controlStands _ s).trans (startRun_controlStands _)
  · exact notify_controlStands _ s
  · exact notify_controlStands _ s

/-! ### The setup taken up as a whole (R193) -/

@[simp] theorem State.takeUp_setup (u : Setup) (s : State) : (s.takeUp u).setup = u := by simp [State.takeUp]
@[simp] theorem State.takeUp_image (u : Setup) (s : State) : (s.takeUp u).image = s.image := by simp [State.takeUp]
@[simp] theorem State.takeUp_link (u : Setup) (s : State) : (s.takeUp u).link = s.link := by simp [State.takeUp]

/-! ### The dispatcher -/

/-- From `l` to `m` the dispatcher does not come to wait for an image write. -/
def Link.NoNewSave (l m : Link) : Prop :=
  ∀ copy, m.dispatcher = .waiting (.saving copy) → l.dispatcher = .waiting (.saving copy)

theorem Link.noNewSave_of_eq {l m : Link} (h : m.dispatcher = l.dispatcher) : l.NoNewSave m :=
  fun _ hm => h ▸ hm

/-- R177: a request that joins the queue leaves the dispatcher, or begins when it is IDLE. -/
theorem Link.enqueue_noNewSave (q : Request) (l : Link) : l.NoNewSave (l.enqueue q) := by
  intro copy h
  unfold Link.enqueue at h
  dsimp only at h
  split at h
  · cases h
  · cases h
  · rename_i e; rw [e, h]

theorem Link.offer_noNewSave (starting : Bool) (q : Request) (l : Link) : l.NoNewSave (l.offer starting q) := by
  unfold Link.offer
  split
  · exact l.enqueue_noNewSave q
  · split
    · exact Link.noNewSave_of_eq (Link.placeReply_dispatcher _ l)
    · exact Link.noNewSave_of_eq rfl

theorem Link.endMessage_noNewSave (starting : Bool) (len : Nat) (body : List Byte) (received : Nat) (l : Link) :
    l.NoNewSave (l.endMessage starting len body received) := by
  unfold Link.endMessage
  split
  · split
    · exact l.hunt.offer_noNewSave starting _
    · exact Link.noNewSave_of_eq rfl
  · exact Link.noNewSave_of_eq rfl

theorem Link.takeByte_noNewSave (starting : Bool) (b : Byte) (l : Link) : l.NoNewSave (l.takeByte starting b) := by
  unfold Link.takeByte
  split
  · split <;> exact Link.noNewSave_of_eq rfl
  · split <;> exact Link.noNewSave_of_eq rfl
  · split <;> exact Link.noNewSave_of_eq rfl
  · exact Link.noNewSave_of_eq rfl
  · exact l.endMessage_noNewSave starting _ _ _

theorem Link.lineByte_noNewSave (starting : Bool) (b : LrxByte) (l : Link) : l.NoNewSave (l.lineByte starting b) := by
  unfold Link.lineByte
  dsimp only
  split
  · exact Link.noNewSave_of_eq rfl
  · split
    · exact Link.takeByte_noNewSave starting _ { l with receiver := { l.receiver with awaitHigh := !b.stop } }
    · exact Link.noNewSave_of_eq rfl

theorem State.receive_noNewSave (bytes : List LrxByte) (s : State) : s.link.NoNewSave (s.receive bytes).link := by
  show s.link.NoNewSave (bytes.foldl (fun l b => l.lineByte s.starting b) s.link)
  generalize s.link = l
  induction bytes generalizing l with
  | nil => exact Link.noNewSave_of_eq rfl
  | cons b bs ih => exact fun copy h => l.lineByte_noNewSave _ b copy (ih _ copy h)

theorem Link.silence_dispatcher (periods : Nat) (l : Link) : (l.silence periods).dispatcher = l.dispatcher := by
  unfold Link.silence
  split
  · rfl
  all_goals split <;> rfl

theorem Link.sent_dispatcher (l : Link) : l.sent.dispatcher = l.dispatcher := by
  unfold Link.sent
  split <;> simp

theorem Link.requestDone_noNewSave (l m : Link) : l.NoNewSave m.requestDone := by
  intro copy h
  unfold Link.requestDone at h
  dsimp only at h
  split at h <;> cases h

theorem Link.settle_noNewSave (r : Reply) (l : Link) : l.NoNewSave (l.settle r) := by
  rcases Link.settle_cases r l with ⟨-, e⟩ | ⟨-, e⟩ <;> rw [e]
  · exact Link.requestDone_noNewSave l _
  · exact fun _ h => nomatch h

theorem State.answer_noNewSave (a : Answer) (s : State) : s.link.NoNewSave (s.answer a).link := by
  unfold State.answer
  split
  · exact Link.settle_noNewSave _ _
  · exact Link.noNewSave_of_eq rfl

/-! ### Setups in range -/

theorem defaultSetup_inRange : Sys2Proof.Machine.defaultSetup.InRange where
  portA := by unfold PortSetup.InRange; decide
  portB := by unfold PortSetup.InRange; decide
  interface := by unfold InterfaceSetup.InRange; decide
  fits := rfl
  measures m := by simp [defaultSetup, MeasureSetup.InRange, defaultMeasure]
  conditions c := by simp [defaultSetup, ConditionSetup.InRange, defaultCondition]
  timers t := by simp [defaultSetup, TimerSetup.InRange, defaultTimer]
  bindings b := by simp [defaultSetup, Binding.InRange, defaultBinding]
  filters i := by simp [defaultSetup, defaultFilter]
  units k := by simp [defaultSetup, UnitSetup.InRange, defaultUnit]
  store := by decide

/-- One entry of a table written in range keeps the table in range. -/
theorem put_inRange {α : Type} {n : Nat} {R : α → Prop} {v : Vector α n} {x : α} (k : Fin n)
    (hv : ∀ j : Fin n, R v[j]) (hx : R x) (j : Fin n) : R (put v k x)[j] := by
  rw [put_get]
  split
  · exact hx
  · exact hv j

namespace SetupsInRange

variable {s t : State}

/-- The range invariant where the working setup is written and the image and the dispatcher stand. -/
theorem write (h : SetupsInRange s) (working : t.setup.InRange) (image : t.image = s.image)
    (link : t.link.dispatcher = s.link.dispatcher) : SetupsInRange t :=
  ⟨working, by rw [image]; exact h.image, by rw [link]; exact h.copy⟩

theorem stands (h : SetupsInRange s) (g : ControlStands s t) : SetupsInRange t :=
  h.write (g.setup ▸ h.working) g.image g.dispatcher

/-- The range invariant where only the link changes, and no save begins. -/
theorem relink (h : SetupsInRange s) {l : Link} (g : s.link.NoNewSave l) : SetupsInRange { s with link := l } :=
  ⟨h.working, h.image, fun copy hc => h.copy copy (g copy hc)⟩

theorem answer (a : Answer) (s : State) (h : SetupsInRange s) : SetupsInRange (s.answer a) :=
  ⟨by simpa using h.working, by simpa using h.image, fun copy hc => h.copy copy (s.answer_noNewSave a copy hc)⟩

theorem takeUp (h : SetupsInRange s) {u : Setup} (hu : u.InRange) : SetupsInRange (s.takeUp u) :=
  h.write (by simpa using hu) (by simp) (by simp)

theorem loaded (h : SetupsInRange s) : s.image.loaded.InRange := by
  unfold SetupImage.loaded
  split
  · exact h.image (by assumption)
  · exact defaultSetup_inRange
  · exact defaultSetup_inRange

/-! The requests that write the setup. -/

theorem setPort (h : SetupsInRange s) (p : List Byte) : SetupsInRange (setPort p s).1 := by
  rcases setPort_cases p s with e | ⟨u, -, fits, e, ⟨a, ha, rfl⟩ | ⟨b, hb, rfl⟩ | ⟨i, hi, rfl⟩⟩ <;> rw [e]
  · exact h
  · exact h.write { h.working with portA := ha, fits := fits } rfl rfl
  · exact h.write { h.working with portB := hb, fits := fits } rfl rfl
  · exact h.write { h.working with interface := hi, fits := fits } rfl rfl

theorem setMeasure (h : SetupsInRange s) (p : List Byte) : SetupsInRange (setMeasure p s).1 := by
  rcases setMeasure_cases p s with e | ⟨m, u, -, hu, e⟩ <;> rw [e]
  · exact h
  · exact h.write { h.working with measures := put_inRange m h.working.measures hu } rfl rfl

theorem setCondition (h : SetupsInRange s) (p : List Byte) : SetupsInRange (setCondition p s).1 := by
  rcases setCondition_cases p s with e | ⟨c, u, -, hu, e⟩ <;> rw [e]
  · exact h
  · exact h.write { h.working with conditions := put_inRange c h.working.conditions hu } rfl rfl

theorem setTimer (h : SetupsInRange s) (p : List Byte) : SetupsInRange (setTimer p s).1 := by
  rcases setTimer_cases p s with e | ⟨t, u, -, hu, e⟩ <;> rw [e]
  · exact h
  · exact h.write { h.working with timers := put_inRange t h.working.timers hu } rfl rfl

theorem setBinding (h : SetupsInRange s) (p : List Byte) : SetupsInRange (setBinding p s).1 := by
  rcases setBinding_cases p s with e | ⟨b, r, hr, e⟩ <;> rw [e]
  · exact h
  · exact h.write { h.working with bindings := put_inRange b h.working.bindings hr } rfl rfl

theorem setUnit (h : SetupsInRange s) (p : List Byte) : SetupsInRange (setUnit p s).1 := by
  rcases setUnit_cases p s with e | ⟨k, u, -, hu, e⟩ <;> rw [e]
  · exact h
  · exact h.write { h.working with units := put_inRange k h.working.units hu } rfl rfl

theorem setLine (h : SetupsInRange s) (p : List Byte) : SetupsInRange (setLine p s).1 := by
  rcases setLine_cases p s with e | ⟨o, u, e⟩ | ⟨i, f, hf, e⟩ <;> rw [e]
  · exact h
  · exact h.write { h.working with } rfl rfl
  · have written : SetupsInRange { s with setup := { s.setup with filters := put s.setup.filters i f } } :=
      h.write { h.working with filters := put_inRange (R := fun f => f ≤ 255) i h.working.filters hf } rfl rfl
    exact written.stands (refilter_only i _).controlStands

theorem setStore (h : SetupsInRange s) (p : List Byte) : SetupsInRange (setStore p s).1 := by
  rcases setStore_cases p s with e | ⟨u, hu, e⟩ <;> rw [e]
  · exact h
  · exact h.write { h.working with store := hu } rfl rfl

theorem autorunRequest (h : SetupsInRange s) (p : List Byte) : SetupsInRange (autorunRequest p s).1 := by
  rcases autorunRequest_cases p s with e | ⟨b, e⟩ <;> rw [e]
  · exact h
  · exact h.write { h.working with } rfl rfl

theorem defaultRequest (h : SetupsInRange s) (p : List Byte) : SetupsInRange (defaultRequest p s).1 := by
  rcases defaultRequest_cases p s with e | ⟨-, e⟩ <;> rw [e]
  · exact h
  · exact h.takeUp defaultSetup_inRange

/-! The other requests that have an effect. -/

theorem runRequest (h : SetupsInRange s) (p : List Byte) : SetupsInRange (runRequest p s).1 := by
  rcases runRequest_cases p s with e | ⟨-, -, e⟩ <;> rw [e]
  · exact h
  · exact h.stands (startRun_controlStands s)

theorem stopRequest (h : SetupsInRange s) (p : List Byte) : SetupsInRange (stopRequest p s).1 := by
  rcases stopRequest_cases p s with e | ⟨-, e⟩ <;> rw [e]
  · exact h
  · exact h.stands (stopEngine_controlStands s)

theorem statusRequest (h : SetupsInRange s) (p : List Byte) : SetupsInRange (statusRequest p s).1 := by
  rcases statusRequest_cases p s with e | e <;> rw [e]
  · exact h
  · exact h.relink (Link.noNewSave_of_eq rfl)

theorem conditionRequest (h : SetupsInRange s) (op : ConditionSetup → ConditionState → ConditionState) (p : List Byte) :
    SetupsInRange (conditionRequest op p s).1 := by
  rcases conditionRequest_cases op p s with e | ⟨c, -, e⟩ <;> rw [e]
  · exact h
  · exact h.stands (onCondition_only op c s).controlStands

theorem timerRequest (h : SetupsInRange s) (op : TimerSetup → TimerState → TimerState) (p : List Byte) :
    SetupsInRange (timerRequest op p s).1 := by
  rcases timerRequest_cases op p s with e | ⟨t, -, e⟩ <;> rw [e]
  · exact h
  · exact h.stands (controlStands_streamClosed.timers _ s)

theorem fire (h : SetupsInRange s) (p : List Byte) : SetupsInRange (fire p s).1 := by
  rcases fire_cases p s with e | ⟨ns, -, e⟩ <;> rw [e]
  · exact h
  · exact h.stands (controlStands_streamClosed.foldl (fun a n => raise_controlStands _ a) ns s)

theorem driveLine (h : SetupsInRange s) (p : List Byte) : SetupsInRange (driveLine p s).1 := by
  rcases driveLine_cases p s with e | ⟨op, o, e⟩ <;> rw [e]
  · exact h
  · exact h.write h.working rfl rfl

theorem armRequest (h : SetupsInRange s) (p : List Byte) : SetupsInRange (unitRequest armRequest p s).1 := by
  rcases unitRequest_cases Machine.armRequest p s with e | ⟨k, -, e⟩ <;> rw [e]
  · exact h
  · rcases armRequest_cases k s with e | ⟨-, e⟩
    · rw [e]; exact h
    · exact h.stands (controlStands_unitClosed.tryArm e)

theorem triggerRequest (h : SetupsInRange s) (p : List Byte) : SetupsInRange (unitRequest triggerRequest p s).1 := by
  rcases unitRequest_cases Machine.triggerRequest p s with e | ⟨k, -, e⟩ <;> rw [e]
  · exact h
  · rcases triggerRequest_cases k s with e | ⟨-, e⟩ <;> rw [e]
    · exact h
    · exact h.stands (controlStands_unitClosed.triggerUnitBy k _ _ _ s)

theorem abortRequest (h : SetupsInRange s) (p : List Byte) : SetupsInRange (unitRequest abortRequest p s).1 := by
  rcases unitRequest_cases Machine.abortRequest p s with e | ⟨k, -, e⟩ <;> rw [e]
  · exact h
  · rcases abortRequest_cases k s with e | ⟨-, e⟩ <;> rw [e]
    · exact h
    · exact h.stands (controlStands_unitClosed.abortUnitBy k s)

theorem holdCapture (h : SetupsInRange s) (p : List Byte) : SetupsInRange (holdCapture p s).1 := by
  rcases holdCapture_cases p s with e | ⟨r, -, mark, e⟩ <;> rw [e]
  · exact h
  · exact h.stands (controlStands_unitClosed.store _ s)

theorem releaseCapture (h : SetupsInRange s) (p : List Byte) : SetupsInRange (releaseCapture p s).1 := by
  rcases releaseCapture_cases p s with e | ⟨r, -, e⟩ <;> rw [e]
  · exact h
  · exact h.stands (controlStands_unitClosed.store _ s)

/-! The rows that do not answer through `serve`. -/

theorem comeUp (h : SetupsInRange s) (cause : ReadyCause) : SetupsInRange (s.comeUp cause) :=
  h.stands (comeUp_controlStands cause s)

theorem started (h : SetupsInRange s) : SetupsInRange { s with startup := none } := ⟨h.working, h.image, h.copy⟩

theorem startupRead (h : SetupsInRange s) (cause : ReadyCause) :
    SetupsInRange (State.comeUp cause { s.takeUp s.image.loaded with startup := none }) :=
  (h.takeUp h.loaded).started.comeUp cause

theorem beginRestart (h : SetupsInRange s) (q : Request) : SetupsInRange (s.beginRestart q) := by
  have placed : SetupsInRange { s with link := s.link.placeReply (replyTo q (okay [])) } :=
    h.relink (Link.noNewSave_of_eq (Link.placeReply_dispatcher _ _))
  unfold State.beginRestart State.dispatcherTo
  dsimp only
  split
  · exact (placed.stands (stopEngine_controlStands _)).relink fun _ hc => nomatch hc
  · exact placed.relink fun _ hc => nomatch hc

theorem endRestart (h : SetupsInRange s) : SetupsInRange s.endRestart := by
  have cleared : SetupsInRange (s.takeUp s.image.loaded).clearRuntime :=
    (h.takeUp h.loaded).write (by simpa [State.clearRuntime] using h.loaded) rfl rfl
  exact (cleared.comeUp .restart).relink (Link.requestDone_noNewSave _ _)

/-- R195: the copy that a save makes is the working setup, and the image is not VALID until the save ends. -/
theorem beginSave (h : SetupsInRange s) : SetupsInRange s.beginSave :=
  ⟨h.working, nofun, fun copy hc => by cases hc; exact h.working⟩

/-- R195: a VALID image holds the copy that was made when the save began. -/
theorem endSave (h : SetupsInRange s) {copy : Setup} (hc : s.link.dispatcher = .waiting (.saving copy)) (verified : Bool) :
    SetupsInRange (s.endSave copy verified) := by
  unfold State.endSave
  dsimp only
  split
  · exact SetupsInRange.answer _ _ ⟨h.working, fun _ => h.copy copy hc, h.copy⟩
  · exact SetupsInRange.answer _ _ h

theorem endLoad (h : SetupsInRange s) : SetupsInRange s.endLoad := by
  unfold State.endLoad
  split
  · exact SetupsInRange.answer _ _ (h.takeUp (h.image (by assumption)))
  · exact SetupsInRange.answer _ _ h
  · exact SetupsInRange.answer _ _ h

theorem afterReset (h : SetupsInRange s) (cause : ResetCause) (pins : ResetPins) :
    SetupsInRange (State.afterReset cause pins s.image s.pending) :=
  ⟨defaultSetup_inRange, h.image, fun _ hc => by simp [State.afterReset, resetLink] at hc⟩

theorem clockAll (h : SetupsInRange s) (edges : List SckEdge) : SetupsInRange (s.clockAll edges) :=
  h.stands (controlStands_streamClosed.clockAll edges s)

/-- A row that changes nothing of the state but by the request it serves. -/
theorem serve (h : SetupsInRange s) (kind : Byte) {act : List Byte → State → State × Answer}
    (effect : ∀ p, SetupsInRange (act p s).1) : SetupsInRange (serve kind act s) :=
  serve_keeps kind SetupsInRange.answer effect h

theorem serve_report (h : SetupsInRange s) (kind : Byte) {act : List Byte → State → State × Answer}
    (report : ∀ p s, (act p s).1 = s) : SetupsInRange (Machine.serve kind act s) :=
  h.serve kind fun p => (report p s).symm ▸ h

theorem restart (h : SetupsInRange s) (q : Request) :
    SetupsInRange (if q.payload ≠ [] then s.answer (refusal .badLength)
      else if s.link.replies.length < Config.replyPlaces then s.beginRestart q else s) := by
  split
  · exact SetupsInRange.answer _ _ h
  · split
    · exact h.beginRestart q
    · exact h

theorem saveSetup (h : SetupsInRange s) (q : Request) :
    SetupsInRange (if q.payload ≠ [] then s.answer (refusal .badLength) else s.beginSave) := by
  split
  · exact SetupsInRange.answer _ _ h
  · exact h.beginSave

theorem onLoadSetup (h : SetupsInRange s) (q : Request) :
    SetupsInRange (if q.payload ≠ [] then s.answer (refusal .badLength)
      else match s.engine with
        | .running => s.answer (refusal .state)
        | .stopped => s.dispatcherTo (.waiting .loading)) := by
  split
  · exact SetupsInRange.answer _ _ h
  · split
    · exact SetupsInRange.answer _ _ h
    · exact h.relink fun _ hc => nomatch hc

end SetupsInRange

theorem next_keeps {P : State → Prop} {s t : State} (h : P s)
    (e : (Host.Outcome.next s : Host.Outcome State Fault Refusal) = .next t) : P t := by
  cases e
  exact h

/-- Every command keeps every setup in range. -/
theorem exec_setupsInRange (c : Instr) {s t : State} (h : SetupsInRange s) (e : exec c s = .next t) : SetupsInRange t := by
  cases c
  case hardReset cause pins => exact next_keeps (h.afterReset cause pins) e
  case startupSetupRead =>
    refine next_keeps ?_ e
    split
    · exact h.startupRead _
    · exact h
  case messageReceived bytes => exact next_keeps (h.relink (s.receive_noNewSave bytes)) e
  case receiveTimeout periods => exact next_keeps (h.relink (Link.noNewSave_of_eq (Link.silence_dispatcher _ _))) e
  case unknownKind => exact next_keeps (onRequest_keeps (fun _ _ => SetupsInRange.answer _ _ h) h) e
  case replyPlaced =>
    refine next_keeps ?_ e
    split
    · exact h.relink (Link.settle_noNewSave _ _)
    all_goals exact h
  case transmitComplete => exact next_keeps (h.relink (Link.noNewSave_of_eq (Link.sent_dispatcher _))) e
  case identify => exact next_keeps (h.serve_report _ identifyRequest_state) e
  case status => exact next_keeps (h.serve _ h.statusRequest) e
  case run => exact next_keeps (h.serve _ h.runRequest) e
  case stop => exact next_keeps (h.serve _ h.stopRequest) e
  case restart =>
    refine next_keeps (onRequest_keeps (P := SetupsInRange) (fun q _ => ?_) h) e
    exact h.restart q
  case restartSetupRead =>
    refine next_keeps ?_ e
    split
    · exact h.endRestart
    · exact h
  case saveSetup =>
    refine next_keeps (onRequest_keeps (P := SetupsInRange) (fun q _ => ?_) h) e
    exact h.saveSetup q
  case saveComplete verified =>
    refine next_keeps ?_ e
    split
    · exact h.endSave (by assumption) verified
    all_goals exact h
  case loadSetup =>
    refine next_keeps (onRequest_keeps (P := SetupsInRange) (fun q _ => ?_) h) e
    exact h.onLoadSetup q
  case loadComplete =>
    refine next_keeps ?_ e
    split
    · exact h.endLoad
    all_goals exact h
  case defaultSetup => exact next_keeps (h.serve _ h.defaultRequest) e
  case setAutorun => exact next_keeps (h.serve _ h.autorunRequest) e
  case setPort => exact next_keeps (h.serve _ h.setPort) e
  case getPort => exact next_keeps (h.serve_report _ getPort_state) e
  case setMeasure => exact next_keeps (h.serve _ h.setMeasure) e
  case getMeasure => exact next_keeps (h.serve_report _ getMeasure_state) e
  case setCondition => exact next_keeps (h.serve _ h.setCondition) e
  case getCondition => exact next_keeps (h.serve_report _ getCondition_state) e
  case armCondition => exact next_keeps (h.serve _ (h.conditionRequest _)) e
  case disarmCondition => exact next_keeps (h.serve _ (h.conditionRequest _)) e
  case unlatchCondition => exact next_keeps (h.serve _ (h.conditionRequest _)) e
  case setTimer => exact next_keeps (h.serve _ h.setTimer) e
  case getTimer => exact next_keeps (h.serve_report _ getTimer_state) e
  case startTimer => exact next_keeps (h.serve _ (h.timerRequest _)) e
  case stopTimer => exact next_keeps (h.serve _ (h.timerRequest _)) e
  case resumeTimer => exact next_keeps (h.serve _ (h.timerRequest _)) e
  case setBinding => exact next_keeps (h.serve _ h.setBinding) e
  case getBinding => exact next_keeps (h.serve_report _ getBinding_state) e
  case fire => exact next_keeps (h.serve _ h.fire) e
  case setLine => exact next_keeps (h.serve _ h.setLine) e
  case getLines => exact next_keeps (h.serve_report _ getLines_state) e
  case driveLine => exact next_keeps (h.serve _ h.driveLine) e
  case setUnit => exact next_keeps (h.serve _ h.setUnit) e
  case getUnit => exact next_keeps (h.serve_report _ getUnit_state) e
  case armUnit => exact next_keeps (h.serve _ h.armRequest) e
  case triggerUnit => exact next_keeps (h.serve _ h.triggerRequest) e
  case abortUnit => exact next_keeps (h.serve _ h.abortRequest) e
  case listCaptures => exact next_keeps (h.serve_report _ listCaptures_state) e
  case getCapture => exact next_keeps (h.serve_report _ getCapture_state) e
  case readFrames => exact next_keeps (h.serve_report _ readFrames_state) e
  case holdCapture => exact next_keeps (h.serve _ h.holdCapture) e
  case releaseCapture => exact next_keeps (h.serve _ h.releaseCapture) e
  case setStore => exact next_keeps (h.serve _ h.setStore) e
  case getStore => exact next_keeps (h.serve_report _ getStore_state) e
  case firstSyncEdge edges =>
    refine next_keeps ?_ e
    split
    · exact h.clockAll edges
    · exact h
  case frameBoundary edges =>
    refine next_keeps ?_ e
    split
    · exact h.clockAll edges
    · exact h
  case timerExpire timer edges =>
    refine next_keeps ?_ e
    split
    · exact h.clockAll edges
    · exact h
  case syncLost periods => exact next_keeps (h.stands (controlStands_streamClosed.quiet periods s)) e
  case syncRegained edges =>
    refine next_keeps ?_ e
    split
    · exact h.clockAll edges
    · exact h
  case take during =>
    change execTake during s = .next t at e
    unfold execTake at e
    split at e <;> cases e
    · exact h.stands (workFrame_controlStands _ during s)
    · exact h
    · exact h
  case inputAccepted input periods => exact next_keeps (h.stands (holdPin_only input periods s).controlStands) e
  case inputPinChange input level => exact next_keeps (h.stands (samplePin_only input level s).controlStands) e
  case stopBitError byte =>
    refine next_keeps ?_ e
    split
    · exact h
    · exact h.relink (s.receive_noNewSave [byte])

/-- Settles O9: the invariant holds of the queue's rest as of the queue, and every command keeps it. -/
theorem stepKeepsSetupsInRange : Obligations.StepKeepsSetupsInRange := by
  intro s t h e
  unfold step at e
  split at e
  · cases e; exact h
  · rename_i c rest _
    exact exec_setupsInRange c (s := { s with pending := rest }) ⟨h.working, h.image, h.copy⟩ e

end Sys2Proof.Machine

namespace Sys2Proof.Machine

/-! ### Samples (R5, R6) -/

theorem msbValue_append (xs ys : List Bool) (acc : Nat) : msbValue (xs ++ ys) acc = msbValue ys (msbValue xs acc) := by
  induction xs generalizing acc with
  | nil => rfl
  | cons b bs ih => exact ih _

theorem msbValue_eq (bits : List Bool) (acc : Nat) :
    msbValue bits acc = acc * 2 ^ bits.length + (BitVec.ofBoolListBE bits).toNat := by
  induction bits generalizing acc with
  | nil => simp [msbValue, BitVec.ofBoolListBE]
  | cons b bs ih =>
    have hb : b.toNat = bit b := by cases b <;> rfl
    simp only [msbValue, ih, BitVec.ofBoolListBE, BitVec.toNat_cons', List.length_cons, Nat.shiftLeft_eq, hb]
    ring

/-- The first bit the most significant: the big-endian word of the bits. -/
theorem msbValue_zero (bits : List Bool) : msbValue bits 0 = (BitVec.ofBoolListBE bits).toNat := by
  simp [msbValue_eq]

/-- The first bit the least significant: the little-endian word of the bits. -/
theorem msbValue_reverse (bits : List Bool) : msbValue bits.reverse 0 = (BitVec.ofBoolListLE bits).toNat := by
  induction bits with
  | nil => rfl
  | cons b bs ih =>
    have hb : b.toNat = bit b := by cases b <;> rfl
    simp only [List.reverse_cons, msbValue_append, ih, msbValue, BitVec.ofBoolListLE, BitVec.toNat_concat, hb]
    omega

/-- R6: a two's complement number of the sample width, moved to the top of a lane value. -/
theorem lane_toInt (width : SampleWidth) {w : Nat} (x : BitVec w) (h : w = width.bits) :
    (BitVec.ofNat 24 (x.toNat * 2 ^ (24 - width.bits)) : Lane).toInt = x.toInt * 2 ^ (24 - width.bits) := by
  have hx := x.isLt
  rw [BitVec.toInt_eq_toNat_cond, BitVec.toInt_eq_toNat_cond, BitVec.toNat_ofNat]
  generalize x.toNat = n at hx ⊢
  subst h
  cases width <;> norm_num [SampleWidth.bits] at hx ⊢ <;> split_ifs <;> omega

theorem sampleValue_toInt (p : PortSetup) (bits : List Bool) (h : bits.length = p.width.bits) :
    (sampleValue p bits).toInt =
      (match p.order with
        | .msbFirst => (BitVec.ofBoolListBE bits).toInt
        | .lsbFirst => (BitVec.ofBoolListLE bits).toInt)
      * (match p.width with | .w16 => 256 | .w24 => 1) := by
  have scale : (match p.width with | .w16 => 256 | .w24 => 1 : Int) = 2 ^ (24 - p.width.bits) := by
    cases p.width <;> rfl
  rw [scale]
  unfold sampleValue
  cases p.order with
  | msbFirst =>
    dsimp only
    rw [msbValue_zero]
    exact lane_toInt p.width _ h
  | lsbFirst =>
    dsimp only
    rw [msbValue_reverse]
    exact lane_toInt p.width _ h

/-- Settles O28: the slot's bits give its sample, and the sample is the word that they spell. -/
theorem sampleIsTwosComplement : Obligations.SampleIsTwosComplement := by
  intro p frame bits slot hen hslot hbits hlen
  refine ⟨sampleValue p bits, ?_, sampleValue_toInt p bits hlen⟩
  have hb : slotBits p frame slot = bits := hbits.symm
  simp [slotSamples, hen, hslot, hb]

/-! ### The stages of an edge of SCK (R1, R3, R5) -/

/-- R1: an edge that is not SA's sampling edge is no sample of FSY. -/
theorem judgeSync_other {e : SckEdge} {s : State} (h : e.edge ≠ s.setup.portA.edge) : s.judgeSync e = s := by
  unfold State.judgeSync
  rw [if_neg h]

/-- R1: a sample of FSY that makes no sync edge is remembered. -/
theorem judgeSync_noSync {e : SckEdge} {s : State} (h : e.edge = s.setup.portA.edge)
    (hs : isSyncEdge (s.fsyLevel e) s.iface = false) : s.judgeSync e = s.noteFsy (s.fsyLevel e) := by
  unfold State.judgeSync
  simp [h, hs]

/-- R1: a sync edge, at which FSY is high. -/
theorem judgeSync_sync {e : SckEdge} {s : State} (h : e.edge = s.setup.portA.edge) (hl : s.fsyLevel e = true)
    (hs : isSyncEdge true s.iface = true) : s.judgeSync e = (s.noteFsy true).syncEdge := by
  unfold State.judgeSync
  simp [h, hl, hs]

theorem clock_on {e : SckEdge} {s : State} (h : s.iface.state ≠ .off) :
    s.clock e = ((s.noteSck e).judgeSync e).shiftIn e := by
  unfold State.clock
  split
  · exact absurd (by assumption) h
  all_goals rfl

/-- R5: the bit that a port takes in at an edge of SCK, if any. -/
def PortSetup.takesIn (p : PortSetup) (e : SckEdge) (data : Bool) : List Bool :=
  if p.enabled = true ∧ e.edge = p.edge then [data] else []

/-- R5: while a frame is in progress each enabled port takes in its data bit at its own sampling edge. -/
theorem shiftIn_receiving {e : SckEdge} {s : State} (h : s.iface.state = .receiving) (hd : s.iface.firstFsyDue = false) :
    s.shiftIn e =
      { s with iface :=
          { s.iface with
            shiftA := s.iface.shiftA ++ s.setup.portA.takesIn e e.sda
            shiftB := s.iface.shiftB ++ s.setup.portB.takesIn e e.sdb } } := by
  have appended : ∀ (p : PortSetup) (bits : List Bool) (data : Bool),
      (if p.enabled = true ∧ e.edge = p.edge then bits ++ [data] else bits) = bits ++ p.takesIn e data := by
    intro p bits data
    unfold PortSetup.takesIn
    split <;> simp
  unfold State.shiftIn
  rw [h]
  dsimp only
  rw [if_neg (by rw [hd]; decide), appended, appended]

/-- R10, R12, R13: the bits taken in at the sync edge that starts a frame. -/
theorem shiftIn_first {e : SckEdge} {s : State} (h : s.iface.state = .receiving) (hd : s.iface.firstFsyDue = false)
    (hA : s.iface.shiftA = []) (hB : s.iface.shiftB = []) (he : e.edge = s.setup.portA.edge) :
    s.shiftIn e =
      { s with iface :=
          { s.iface with
            shiftA := if s.setup.portA.enabled then [e.sda] else []
            shiftB := if s.setup.portB.enabled = true ∧ s.setup.portB.edge = s.setup.portA.edge then [e.sdb] else [] } } := by
  rw [shiftIn_receiving h hd, hA, hB, PortSetup.takesIn, PortSetup.takesIn, he]
  simp only [and_true, List.nil_append, eq_comm (a := s.setup.portA.edge)]

/-- R5: an edge at which FSY is low, in FOLLOWER clocking, while a frame is in progress. -/
theorem clock_low {e : SckEdge} {s : State} (h : s.iface.state = .receiving) (hd : s.iface.firstFsyDue = false)
    (hf : s.setup.interface.source = .follower) (he : e.fsy = false) :
    ∃ last low phase, s.clock e =
      { s with iface :=
          { s.iface with
            shiftA := s.iface.shiftA ++ s.setup.portA.takesIn e e.sda
            shiftB := s.iface.shiftB ++ s.setup.portB.takesIn e e.sdb
            lastFsy := last, fsyLow := low, fsyPhase := phase, sckHigh := decide (e.edge = .rising) } } := by
  rw [clock_on (by rw [h]; decide)]
  by_cases ha : e.edge = s.setup.portA.edge
  · have hlevel : (s.noteSck e).fsyLevel e = false := by unfold State.fsyLevel; simp [hf, he]
    rw [judgeSync_noSync (s := s.noteSck e) ha (by rw [hlevel]; rfl),
      shiftIn_receiving (s := (s.noteSck e).noteFsy ((s.noteSck e).fsyLevel e)) h hd]
    exact ⟨_, _, _, rfl⟩
  · rw [judgeSync_other (s := s.noteSck e) ha, shiftIn_receiving (s := s.noteSck e) h hd]
    exact ⟨_, _, _, rfl⟩

/-- R5: the bits that a port takes in over several edges. -/
def PortSetup.gathers (p : PortSetup) (edges : List SckEdge) (data : SckEdge → Bool) : List Bool :=
  if p.enabled then (edges.filter fun e => e.edge = p.edge).map data else []

theorem gathers_append (p : PortSetup) (es : List SckEdge) (e : SckEdge) (data : SckEdge → Bool) :
    p.gathers (es ++ [e]) data = p.gathers es data ++ p.takesIn e (data e) := by
  unfold PortSetup.gathers PortSetup.takesIn
  by_cases hp : p.enabled = true
  · by_cases he : e.edge = p.edge <;> simp [hp, he]
  · simp [hp]

/-- R5: between sync edges the shift stages gather the bits of the sampling edges, in order. -/
theorem clockAll_low (s : State) (edges : List SckEdge) (h : s.iface.state = .receiving) (hd : s.iface.firstFsyDue = false)
    (hf : s.setup.interface.source = .follower) (hlow : ∀ e ∈ edges, e.fsy = false) :
    ∃ last low phase, s.clockAll edges =
      { s with iface :=
          { s.iface with
            shiftA := s.iface.shiftA ++ s.setup.portA.gathers edges SckEdge.sda
            shiftB := s.iface.shiftB ++ s.setup.portB.gathers edges SckEdge.sdb
            lastFsy := last, fsyLow := low, fsyPhase := phase
            sckHigh := match edges.getLast? with
              | some e => decide (e.edge = .rising)
              | none => s.iface.sckHigh } } := by
  induction edges using List.reverseRecOn with
  | nil => exact ⟨s.iface.lastFsy, s.iface.fsyLow, s.iface.fsyPhase, by simp [State.clockAll, PortSetup.gathers]⟩
  | append_singleton es e ih =>
    obtain ⟨last, low, phase, ht⟩ := ih fun d hd => hlow d (List.mem_append_left _ hd)
    have hrec : (s.clockAll es).iface.state = .receiving := by rw [ht]; exact h
    have hdue : (s.clockAll es).iface.firstFsyDue = false := by rw [ht]; exact hd
    obtain ⟨last', low', phase', ht'⟩ := clock_low hrec hdue (by simpa using hf) (hlow e (by simp))
    refine ⟨last', low', phase', ?_⟩
    rw [clockAll_append]
    show (s.clockAll es).clock e = _
    rw [ht', ht, gathers_append, gathers_append]
    simp only [List.append_assoc, List.getLast?_append_cons, List.getLast?_singleton]

end Sys2Proof.Machine

namespace Sys2Proof.Machine

/-! ### Events raised (R84, R85) -/

/-- R84, R85: raising changes the pending event set alone. -/
theorem raise_eq (id : EventId) (s : State) :
    s.raise id = { s with events := if s.engine = .running then insertId id s.events else s.events } := by
  by_cases he : s.engine = .running
  · rw [State.raise_running id s he, if_pos he]
  · rw [State.raise_stopped id s (by cases h : s.engine with | stopped => rfl | running => exact absurd h he), if_neg he]

/-- Several events raised: each is pending afterwards while the engine is RUNNING, and nothing else changes. -/
theorem raiseAll_eq {α : Type} (f : α → EventId) (xs : List α) (s : State) :
    ∃ es, xs.foldl (fun a x => a.raise (f x)) s = { s with events := es }
      ∧ ∀ id, id ∈ es ↔ id ∈ s.events ∨ s.engine = .running ∧ ∃ x ∈ xs, id = f x := by
  induction xs generalizing s with
  | nil => exact ⟨s.events, rfl, by simp⟩
  | cons x xs ih =>
    obtain ⟨es, he, hmem⟩ := ih (s.raise (f x))
    refine ⟨es, ?_, fun id => ?_⟩
    · rw [List.foldl_cons, he, raise_eq]
    · rw [hmem, State.raise_engine, State.raise_events]
      by_cases hr : s.engine = .running
      · simp [hr, mem_insertId, or_assoc, or_left_comm]
      · simp [hr]

/-- R69, R71: at a boundary every RUNNING timer advances, and the expiries are pending. -/
theorem advanceTimers_eq (s : State) :
    ∃ es, s.advanceTimers =
        { s with timers := tab fun t => timerAdvance s.setup.timers[t] s.timers[t], events := es }
      ∧ ∀ id, id ∈ es ↔ id ∈ s.events
          ∨ s.engine = .running ∧ ∃ k : Fin 4, timerDue s.setup.timers[k] s.timers[k] = true ∧ id = evExpire k := by
  obtain ⟨es, he, hmem⟩ := raiseAll_eq evExpire ((List.finRange 4).filter fun t => timerDue s.setup.timers[t] s.timers[t])
    { s with timers := tab fun t => timerAdvance s.setup.timers[t] s.timers[t] }
  exact ⟨es, he, by simpa using hmem⟩

/-! ### The end of a frame (R13, R15) -/

theorem shortFrame_eq (s : State) :
    s.shortFrame =
      { s with
        iface := { s.iface with shortFrames := satInc s.iface.shortFrames }
        events := if s.engine = .running then insertId evFrameLost s.events else s.events
        link := s.link.offerNotice (.streamFault .short (s.setup.portA.short s.iface.shiftA)
          (s.setup.portB.short s.iface.shiftB) s.runNumber s.iface.frameNumber) } := by
  unfold State.shortFrame
  rw [raise_eq]
  rfl

theorem overrunFrame_eq (s : State) :
    s.overrunFrame =
      { s with
        iface := { s.iface with overruns := satInc s.iface.overruns }
        events := if s.engine = .running then insertId evFrameLost s.events else s.events
        link := s.link.offerNotice (.streamFault .overrun false false s.runNumber s.iface.frameNumber) } := by
  unfold State.overrunFrame
  rw [raise_eq]
  rfl

theorem endFrame_short {s : State} (h : (s.setup.portA.short s.iface.shiftA || s.setup.portB.short s.iface.shiftB) = true) :
    s.endFrame = s.shortFrame := by
  unfold State.endFrame
  rw [if_pos h]

theorem endFrame_overrun {s : State} {f : HeldFrame}
    (h : (s.setup.portA.short s.iface.shiftA || s.setup.portB.short s.iface.shiftB) = false)
    (hf : s.iface.holding = some f) : s.endFrame = s.overrunFrame := by
  unfold State.endFrame
  rw [if_neg (by rw [h]; decide), hf]

theorem endFrame_hold {s : State}
    (h : (s.setup.portA.short s.iface.shiftA || s.setup.portB.short s.iface.shiftB) = false)
    (hf : s.iface.holding = none) : s.endFrame = s.holdFrame := by
  unfold State.endFrame
  rw [if_neg (by rw [h]; decide), hf]

/-- R13: what becomes of an ended frame touches the holding stage, the two counts, the pending events and the notices alone, and takes no event away. -/
def FrameEnded (s t : State) : Prop :=
  ∃ holding short lost events link,
    t = { s with
          iface := { s.iface with holding := holding, shortFrames := short, overruns := lost }
          events := events, link := link }
      ∧ ∀ id ∈ s.events, id ∈ events

theorem endFrame_ended (s : State) : FrameEnded s s.endFrame := by
  have kept : ∀ id ∈ s.events, id ∈ if s.engine = .running then insertId evFrameLost s.events else s.events := by
    intro id hid
    split
    · exact (mem_insertId _ _ _).2 (.inr hid)
    · exact hid
  unfold State.endFrame
  split
  · exact ⟨_, _, _, _, _, shortFrame_eq s, kept⟩
  · split
    · exact ⟨_, _, _, _, _, overrunFrame_eq s, kept⟩
    · exact ⟨_, _, _, _, _, rfl, fun _ h => h⟩

/-- R5, R10, R13: a sync edge that starts a frame leaves the shift stages with the bits sampled at it. -/
theorem startFrame_shiftIn {e : SckEdge} {s : State} (h : s.iface.state = .receiving) (he : e.edge = s.setup.portA.edge) :
    s.startFrame.shiftIn e =
      { s with iface :=
          { s.iface with
            shiftA := if s.setup.portA.enabled then [e.sda] else []
            shiftB := if s.setup.portB.enabled = true ∧ s.setup.portB.edge = s.setup.portA.edge then [e.sdb] else []
            firstFsyDue := false
            syncTimer := match s.setup.interface.source with
              | .follower => some 0
              | .provider => none } } :=
  shiftIn_first (s := s.startFrame) h rfl rfl rfl he

/-! ### Sync edges by the state of the interface -/

/-- The state in which the part finds itself at a sample of FSY high: the level of SCK and the sample are remembered. -/
def State.sampledHigh (e : SckEdge) (s : State) : State := (s.noteSck e).noteFsy true

/-- R1: an SA sampling edge that is a sync edge. -/
theorem clock_sync {e : SckEdge} {s : State} (hstate : s.iface.state ≠ .off) (he : e.edge = s.setup.portA.edge)
    (hl : (s.noteSck e).fsyLevel e = true) (hlast : s.iface.lastFsy = false)
    (hlow : s.iface.state = .receiving ∨ s.iface.fsyLow = true) :
    s.clock e = (s.sampledHigh e).syncEdge.shiftIn e := by
  have hs : isSyncEdge true (s.noteSck e).iface = true := by
    unfold isSyncEdge State.noteSck
    cases hi : s.iface.state <;> simp_all
  rw [clock_on hstate, judgeSync_sync (s := s.noteSck e) he hl hs]
  rfl

theorem fsyLevel_follower {e : SckEdge} {s : State} (h : s.setup.interface.source = .follower) : s.fsyLevel e = e.fsy := by
  unfold State.fsyLevel
  rw [h]

theorem fsyLevel_provider {e : SckEdge} {s : State} (h : s.setup.interface.source = .provider) :
    s.fsyLevel e = decide (s.iface.fsyPhase = 0) := by
  unfold State.fsyLevel
  rw [h]

/-- A sync edge at which a frame starts: FSY remembered high, the interface RECEIVING. -/
def State.inFrame (e : SckEdge) (s : State) : State :=
  { s.sampledHigh e with iface := { (s.sampledHigh e).iface with state := .receiving } }

theorem sampledHigh_receiving {e : SckEdge} {s : State} (h : s.iface.state = .receiving) : s.sampledHigh e = s.inFrame e := by
  unfold State.inFrame
  rw [← show (s.sampledHigh e).iface.state = .receiving from h]

/-- R10, R9: the first sync edge of a run starts a frame. -/
theorem clock_firstSync {e : SckEdge} {s : State} (he : e.edge = s.setup.portA.edge) (hlast : s.iface.lastFsy = false)
    (h : s.iface.state = .seeking ∧ s.setup.interface.source = .follower ∧ e.fsy = true ∧ s.iface.fsyLow = true
      ∨ s.iface.state = .receiving ∧ s.iface.firstFsyDue = true ∧ s.setup.interface.source = .provider
        ∧ s.iface.fsyPhase = 0) :
    s.clock e = (s.inFrame e).startFrame.shiftIn e := by
  rcases h with ⟨hst, hsrc, hfsy, hlow⟩ | ⟨hst, hdue, hsrc, hphase⟩
  · rw [clock_sync (by rw [hst]; decide) he ((fsyLevel_follower hsrc).trans hfsy) hlast (.inr hlow)]
    unfold State.syncEdge
    rw [show (s.sampledHigh e).iface.state = .seeking from hst]
    rfl
  · have hlevel : (s.noteSck e).fsyLevel e = true := (fsyLevel_provider hsrc).trans (decide_eq_true hphase)
    rw [clock_sync (by rw [hst]; decide) he hlevel hlast (.inl hst)]
    unfold State.syncEdge
    rw [show (s.sampledHigh e).iface.state = .receiving from hst]
    dsimp only
    rw [if_pos (show (s.sampledHigh e).iface.firstFsyDue = true from hdue), sampledHigh_receiving hst]

/-- Settles O30: in SEEKING, and in a PROVIDER run before its first FSY, the sync edge starts a frame and does nothing else. -/
theorem firstSyncEdgeStartsAFrame : Obligations.FirstSyncEdgeStartsAFrame := by
  intro s e he hlast hcase
  have awaits : s.awaitsFirstSync = true := by
    unfold State.awaitsFirstSync
    rcases hcase with ⟨hst, -⟩ | ⟨hst, hdue, -⟩ <;> rw [hst]
    exact hdue
  have hexec : exec (.firstSyncEdge [e]) s = .next ((s.inFrame e).startFrame.shiftIn e) := by
    show Host.Outcome.next (if s.awaitsFirstSync then s.clock e else s) = _
    rw [if_pos awaits, clock_firstSync he hlast hcase]
  rw [startFrame_shiftIn (s := s.inFrame e) rfl he] at hexec
  exact ⟨_, hexec, rfl, rfl, rfl, rfl, rfl, rfl, rfl, rfl⟩

/-- R12: the sync edge that ends a loss of sync starts a frame, raises SYNC_REGAINED and queues its notice. -/
theorem clock_regained {e : SckEdge} {s : State} (he : e.edge = s.setup.portA.edge) (hlast : s.iface.lastFsy = false)
    (hst : s.iface.state = .lost) (hsrc : s.setup.interface.source = .follower) (hfsy : e.fsy = true)
    (hlow : s.iface.fsyLow = true) :
    s.clock e =
      { s with
        iface := ((s.inFrame e).startFrame.shiftIn e).iface
        events := if s.engine = .running then insertId evSyncRegained s.events else s.events
        link := s.link.offerNotice (.streamFault .regained false false s.runNumber s.iface.frameNumber) } := by
  have hreg : (s.sampledHigh e).syncEdge =
      { s with
        iface := (s.inFrame e).startFrame.iface
        events := if s.engine = .running then insertId evSyncRegained s.events else s.events
        link := s.link.offerNotice (.streamFault .regained false false s.runNumber s.iface.frameNumber) } := by
    unfold State.syncEdge
    rw [show (s.sampledHigh e).iface.state = .lost from hst]
    dsimp only
    unfold State.regain
    rw [raise_eq]
    rfl
  rw [clock_sync (by rw [hst]; decide) he ((fsyLevel_follower hsrc).trans hfsy) hlast (.inr hlow), hreg,
    shiftIn_receiving rfl rfl, shiftIn_receiving (s := (s.inFrame e).startFrame) rfl rfl]
  rfl

/-- Settles O33: the loss is `loseSync`, the return is the regaining sync edge. -/
theorem syncIsLostAndRegained : Obligations.SyncIsLostAndRegained := by
  constructor
  · intro s time periods hrun htimer hlong
    have interrupted : ∀ u : UnitState, u.interrupt =
        if u.phase = .idle then u else { u with flags := { u.flags with interrupted := true } } := by
      intro u
      unfold UnitState.interrupt
      cases u.phase <;> rfl
    show Host.Outcome.next (s.quiet periods) = _
    unfold State.quiet
    rw [htimer]
    dsimp only
    rw [if_pos (show s.setup.interface.syncLossMs * Config.periodsPerMs ≤ time + periods from hlong)]
    simp only [State.loseSync, interrupted, raise_eq, hrun, if_pos]
    rfl
  · intro s e hrun hst hsrc he hfsy hlast hlow
    have hexec : exec (.syncRegained [e]) s = .next (s.clock e) := by
      show Host.Outcome.next (if s.iface.state = .lost then s.clock e else s) = _
      rw [if_pos hst]
    rw [clock_regained he hlast hst hsrc hfsy hlow, startFrame_shiftIn (s := s.inFrame e) rfl he, if_pos hrun] at hexec
    refine ⟨_, hexec, rfl, rfl, rfl, rfl, rfl, ?_, rfl, rfl⟩
    show (match s.setup.interface.source with | .follower => some 0 | .provider => none) = some 0
    rw [hsrc]

/-! ### A frame boundary (R13, R15) -/

/-- The state at a sync edge in which the ended frame is judged: its number counted, the timers advanced. -/
def State.atBoundary (e : SckEdge) (s : State) : State :=
  State.advanceTimers
    { s.sampledHigh e with iface := { (s.sampledHigh e).iface with frameNumber := s.iface.frameNumber + 1 } }

/-- R13: what is left of the state at a boundary, beside the number, the timers, their expiries and the memory of FSY and SCK. -/
theorem atBoundary_eq (e : SckEdge) (s : State) :
    ∃ es, s.atBoundary e =
        { s with
          iface := { (s.sampledHigh e).iface with frameNumber := s.iface.frameNumber + 1 }
          timers := tab fun t => timerAdvance s.setup.timers[t] s.timers[t]
          events := es }
      ∧ ∀ id, id ∈ es ↔ id ∈ s.events
          ∨ s.engine = .running ∧ ∃ k : Fin 4, timerDue s.setup.timers[k] s.timers[k] = true ∧ id = evExpire k :=
  advanceTimers_eq
    { s.sampledHigh e with iface := { (s.sampledHigh e).iface with frameNumber := s.iface.frameNumber + 1 } }

theorem exec_frameBoundary_sync {s : State} {e : SckEdge} (h : SyncEdgeInFrame s e) :
    exec (.frameBoundary [e]) s = .next ((s.atBoundary e).endFrame.startFrame.shiftIn e) := by
  obtain ⟨hst, hdue, he, hlast, hfsy⟩ := h
  have hlevel : (s.noteSck e).fsyLevel e = true := by
    cases hsrc : s.setup.interface.source with
    | follower => rw [hsrc] at hfsy; exact (fsyLevel_follower hsrc).trans hfsy
    | provider => rw [hsrc] at hfsy; exact (fsyLevel_provider hsrc).trans (decide_eq_true hfsy)
  have hsync : (s.sampledHigh e).syncEdge = (s.sampledHigh e).boundary := by
    unfold State.syncEdge
    rw [show (s.sampledHigh e).iface.state = .receiving from hst]
    dsimp only
    rw [if_neg (show ¬ (s.sampledHigh e).iface.firstFsyDue = true from by
      rw [show (s.sampledHigh e).iface.firstFsyDue = false from hdue]; decide)]
  show Host.Outcome.next (if s.iface.state = .receiving then s.clock e else s) = _
  rw [if_pos hst, clock_sync (by rw [hst]; decide) he hlevel hlast (.inl hst), hsync]
  rfl

/-- R13: whatever becomes of the ended frame, the boundary has passed. -/
theorem boundaryPassed_of_ended {s t : State} {e : SckEdge} (h : SyncEdgeInFrame s e) (ht : FrameEnded (s.atBoundary e) t) :
    BoundaryPassed s e (t.startFrame.shiftIn e) := by
  obtain ⟨hst, -, he, -, -⟩ := h
  obtain ⟨es, hx, hmem⟩ := atBoundary_eq e s
  obtain ⟨holding, short, lost, events, link, ht, kept⟩ := ht
  rw [startFrame_shiftIn (s := t) (by rw [ht, hx]; exact hst) (by rw [ht, hx]; exact he)]
  rw [hx] at ht kept
  subst ht
  exact
    { frameNumber := rfl
      state := hst
      timers := fun k => tab_get _ k
      expiries := fun hr k hk => kept _ ((hmem _).2 (.inr ⟨hr, k, hk, rfl⟩))
      kept := fun id hid => kept _ ((hmem _).2 (.inl hid))
      shiftA := rfl
      shiftB := rfl
      rest := rfl }

end Sys2Proof.Machine

namespace Sys2Proof.Machine

/-- R5: taking in data bits changes the shift stages alone. -/
theorem shiftIn_eq (e : SckEdge) (s : State) :
    ∃ a b, s.shiftIn e = { s with iface := { s.iface with shiftA := a, shiftB := b } } := by
  have same : ∃ a b, s = { s with iface := { s.iface with shiftA := a, shiftB := b } } := ⟨_, _, rfl⟩
  unfold State.shiftIn
  split
  · exact same
  · exact same
  · exact same
  · split
    · exact same
    · exact ⟨_, _, rfl⟩

theorem atBoundary_iface (e : SckEdge) (s : State) :
    (s.atBoundary e).iface = { (s.sampledHigh e).iface with frameNumber := s.iface.frameNumber + 1 } := by
  obtain ⟨es, hx, -⟩ := atBoundary_eq e s
  rw [hx]

@[simp] theorem atBoundary_frameNumber (e : SckEdge) (s : State) : (s.atBoundary e).iface.frameNumber = s.iface.frameNumber + 1 := by
  rw [atBoundary_iface]

@[simp] theorem atBoundary_shiftA (e : SckEdge) (s : State) : (s.atBoundary e).iface.shiftA = s.iface.shiftA := by
  rw [atBoundary_iface]
  rfl

@[simp] theorem atBoundary_shiftB (e : SckEdge) (s : State) : (s.atBoundary e).iface.shiftB = s.iface.shiftB := by
  rw [atBoundary_iface]
  rfl

@[simp] theorem atBoundary_holding (e : SckEdge) (s : State) : (s.atBoundary e).iface.holding = s.iface.holding := by
  rw [atBoundary_iface]
  rfl

@[simp] theorem atBoundary_shortFrames (e : SckEdge) (s : State) : (s.atBoundary e).iface.shortFrames = s.iface.shortFrames := by
  rw [atBoundary_iface]
  rfl

@[simp] theorem atBoundary_overruns (e : SckEdge) (s : State) : (s.atBoundary e).iface.overruns = s.iface.overruns := by
  rw [atBoundary_iface]
  rfl

@[simp] theorem atBoundary_syncLosses (e : SckEdge) (s : State) : (s.atBoundary e).iface.syncLosses = s.iface.syncLosses := by
  rw [atBoundary_iface]
  rfl

@[simp] theorem atBoundary_setup (e : SckEdge) (s : State) : (s.atBoundary e).setup = s.setup := by
  obtain ⟨es, hx, -⟩ := atBoundary_eq e s
  rw [hx]

@[simp] theorem atBoundary_link (e : SckEdge) (s : State) : (s.atBoundary e).link = s.link := by
  obtain ⟨es, hx, -⟩ := atBoundary_eq e s
  rw [hx]

@[simp] theorem atBoundary_engine (e : SckEdge) (s : State) : (s.atBoundary e).engine = s.engine := by
  obtain ⟨es, hx, -⟩ := atBoundary_eq e s
  rw [hx]

@[simp] theorem atBoundary_runNumber (e : SckEdge) (s : State) : (s.atBoundary e).runNumber = s.runNumber := by
  obtain ⟨es, hx, -⟩ := atBoundary_eq e s
  rw [hx]

theorem short_iff (p : PortSetup) (bits : List Bool) : p.short bits = true ↔ ShortPort p bits := by
  unfold PortSetup.short
  rw [Bool.and_eq_true, decide_eq_true_iff]
  rfl

/-- R8, R13: no port is short at the boundary. -/
theorem atBoundary_whole {s : State} (e : SckEdge) (hA : ¬ ShortPort s.setup.portA s.iface.shiftA)
    (hB : ¬ ShortPort s.setup.portB s.iface.shiftB) :
    ((s.atBoundary e).setup.portA.short (s.atBoundary e).iface.shiftA
      || (s.atBoundary e).setup.portB.short (s.atBoundary e).iface.shiftB) = false := by
  rw [← short_iff, Bool.not_eq_true] at hA hB
  simp [hA, hB]

/-- Settles O31: the three ends of a frame, each at a boundary that has passed. -/
theorem boundaryHoldsOrDiscardsTheFrame : Obligations.BoundaryHoldsOrDiscardsTheFrame := by
  refine ⟨?_, ?_, ?_⟩
  · intro s e h hA hB hnone
    refine ⟨_, exec_frameBoundary_sync h, boundaryPassed_of_ended h (endFrame_ended _), ?_⟩
    obtain ⟨a, b, ht⟩ := shiftIn_eq e (s.atBoundary e).endFrame.startFrame
    rw [ht, endFrame_hold (atBoundary_whole e hA hB) (by rw [atBoundary_holding]; exact hnone)]
    simp [State.holdFrame, State.startFrame]
  · intro s e shortA shortB h hA hB hshort
    have eA : s.setup.portA.short s.iface.shiftA = shortA := Bool.eq_iff_iff.2 ((short_iff _ _).trans hA.symm)
    have eB : s.setup.portB.short s.iface.shiftB = shortB := Bool.eq_iff_iff.2 ((short_iff _ _).trans hB.symm)
    have cut : ((s.atBoundary e).setup.portA.short (s.atBoundary e).iface.shiftA
        || (s.atBoundary e).setup.portB.short (s.atBoundary e).iface.shiftB) = true := by
      simpa [eA, eB] using hshort
    refine ⟨_, exec_frameBoundary_sync h, boundaryPassed_of_ended h (endFrame_ended _), ?_⟩
    obtain ⟨a, b, ht⟩ := shiftIn_eq e (s.atBoundary e).endFrame.startFrame
    rw [ht, endFrame_short cut, shortFrame_eq]
    simp +contextual [State.startFrame, eA, eB, mem_insertId]
  · intro s e f h hA hB hfull
    refine ⟨_, exec_frameBoundary_sync h, boundaryPassed_of_ended h (endFrame_ended _), ?_⟩
    obtain ⟨a, b, ht⟩ := shiftIn_eq e (s.atBoundary e).endFrame.startFrame
    rw [ht, endFrame_overrun (atBoundary_whole e hA hB) (by rw [atBoundary_holding]; exact hfull), overrunFrame_eq]
    simp +contextual [State.startFrame, hfull, mem_insertId]

/-! ### SCK and FSY as the part drives them (R3) -/

/-- From `s` to `t` the setup, the state of the interface, the level of SCK, the last sample of FSY and the phase of the part's own FSY stand. -/
structure ClockStands (s t : State) : Prop where
  setup    : t.setup = s.setup
  state    : t.iface.state = s.iface.state
  sckHigh  : t.iface.sckHigh = s.iface.sckHigh
  lastFsy  : t.iface.lastFsy = s.iface.lastFsy
  fsyPhase : t.iface.fsyPhase = s.iface.fsyPhase

theorem ClockStands.trans {s t u : State} (h : ClockStands s t) (g : ClockStands t u) : ClockStands s u :=
  ⟨g.setup.trans h.setup, g.state.trans h.state, g.sckHigh.trans h.sckHigh, g.lastFsy.trans h.lastFsy,
    g.fsyPhase.trans h.fsyPhase⟩

theorem shiftIn_clockStands (e : SckEdge) (s : State) : ClockStands s (s.shiftIn e) := by
  obtain ⟨a, b, h⟩ := shiftIn_eq e s
  rw [h]
  exact ⟨rfl, rfl, rfl, rfl, rfl⟩

theorem startFrame_clockStands (s : State) : ClockStands s s.startFrame := ⟨rfl, rfl, rfl, rfl, rfl⟩

theorem boundary_clockStands (s : State) : ClockStands s s.boundary := by
  have advanced : ClockStands s
      (State.advanceTimers { s with iface := { s.iface with frameNumber := s.iface.frameNumber + 1 } }) := by
    obtain ⟨es, h, -⟩ := advanceTimers_eq { s with iface := { s.iface with frameNumber := s.iface.frameNumber + 1 } }
    rw [h]
    exact ⟨rfl, rfl, rfl, rfl, rfl⟩
  have ended : ∀ t : State, ClockStands t t.endFrame := by
    intro t
    obtain ⟨_, _, _, _, _, h, -⟩ := endFrame_ended t
    rw [h]
    exact ⟨rfl, rfl, rfl, rfl, rfl⟩
  exact (advanced.trans (ended _)).trans (startFrame_clockStands _)

/-- R13, R9: a sync edge while RECEIVING leaves the levels that the part drives. -/
theorem syncEdge_clockStands {s : State} (h : s.iface.state = .receiving) : ClockStands s s.syncEdge := by
  unfold State.syncEdge
  rw [h]
  dsimp only
  split
  · exact startFrame_clockStands s
  · exact boundary_clockStands s

/-- R1, R3: SA's sampling edge while RECEIVING: the sample is remembered, and the part's own FSY moves on by one bit clock. -/
theorem judgeSync_clockStands {e : SckEdge} {s : State} (h : s.iface.state = .receiving)
    (he : e.edge = s.setup.portA.edge) : ClockStands (s.noteFsy (s.fsyLevel e)) (s.judgeSync e) := by
  unfold State.judgeSync
  rw [if_pos he]
  dsimp only
  split
  · exact syncEdge_clockStands h
  · exact ⟨rfl, rfl, rfl, rfl, rfl⟩

/-- R3: what the part drives while RECEIVING in PROVIDER clocking. -/
theorem pins_receiving {s : State} (hsrc : s.setup.interface.source = .provider) (h : s.iface.state = .receiving) :
    s.sckPin = s.iface.sckHigh
      ∧ s.fsyPin = if s.iface.sckHigh = decide (s.setup.portA.edge = .rising) then s.iface.lastFsy
          else decide (s.iface.fsyPhase = 0) := by
  simp [State.sckPin, State.fsyPin, State.clockRuns, State.drivesClock, hsrc, h]

theorem rising_eq_iff (a b : ClockEdge) : decide (a = .rising) = decide (b = .rising) ↔ a = b := by
  cases a <;> cases b <;> decide

/-- Settles O29: the edges between sync edges one after the other; one edge in PROVIDER clocking; the pins in OFF. -/
theorem shiftStagesGatherBits : Obligations.ShiftStagesGatherBits := by
  refine ⟨?_, ?_, ?_⟩
  · intro s edges hst hdue hsrc hlow
    have hexec : exec (.frameBoundary edges) s = .next (s.clockAll edges) := by
      show Host.Outcome.next (if s.iface.state = .receiving then s.clockAll edges else s) = _
      rw [if_pos hst]
    obtain ⟨last, low, phase, ht⟩ := clockAll_low s edges hst hdue hsrc hlow
    rw [ht] at hexec
    exact ⟨_, hexec, rfl, rfl⟩
  · intro s e hsrc hst
    have hexec : exec (.frameBoundary [e]) s = .next (((s.noteSck e).judgeSync e).shiftIn e) := by
      show Host.Outcome.next (if s.iface.state = .receiving then s.clock e else s) = _
      rw [if_pos hst, clock_on (by rw [hst]; decide)]
    have hlevel : (s.noteSck e).fsyLevel e = decide (s.iface.fsyPhase = 0) := fsyLevel_provider hsrc
    refine ⟨_, hexec, ?_⟩
    by_cases he : e.edge = s.setup.portA.edge
    · obtain ⟨tset, tst, tsck, tlast, tphase⟩ :=
        (judgeSync_clockStands (s := s.noteSck e) hst he).trans (shiftIn_clockStands e _)
      obtain ⟨sck, fsy⟩ := pins_receiving (by rw [tset]; exact hsrc) (tst.trans hst)
      refine ⟨sck.trans tsck, fun hne => absurd he hne, fun _ => ⟨?_, tphase⟩⟩
      rw [fsy, if_pos (by rw [tset, tsck]; exact (rising_eq_iff _ _).2 he), tlast]
      exact hlevel
    · rw [judgeSync_other (s := s.noteSck e) he]
      obtain ⟨tset, tst, tsck, tlast, tphase⟩ := shiftIn_clockStands e (s.noteSck e)
      obtain ⟨sck, fsy⟩ := pins_receiving (by rw [tset]; exact hsrc) (tst.trans hst)
      refine ⟨sck.trans tsck, fun _ => ⟨?_, tphase⟩, fun h => absurd h he⟩
      rw [fsy, if_neg (by rw [tset, tsck]; exact fun h => he ((rising_eq_iff _ _).1 h)), tphase]
      rfl
  · intro s hsrc hoff
    simp [State.sckPin, State.fsyPin, State.clockRuns, hoff]

end Sys2Proof.Machine

namespace Sys2Proof.Machine

/-! ### SET_PORT (R21, R8) -/

theorem setPort_portA {p : PortSetup} (h : p.InRange) (s : State) :
    setPort (0 :: p.bytes) s = writePorts (some { s.setup with portA := p }) s := by
  have hr : readPort p.bytes = some p := (readPort_iff _ _).2 ⟨h, rfl⟩
  show (if p.bytes.length ≠ 7 then (s, refusal .badLength) else writePorts ((readPort p.bytes).map _) s) = _
  rw [if_neg (by simp [PortSetup.bytes]), hr]
  rfl

theorem setPort_portB {p : PortSetup} (h : p.InRange) (s : State) :
    setPort (1 :: p.bytes) s = writePorts (some { s.setup with portB := p }) s := by
  have hr : readPort p.bytes = some p := (readPort_iff _ _).2 ⟨h, rfl⟩
  show (if p.bytes.length ≠ 7 then (s, refusal .badLength) else writePorts ((readPort p.bytes).map _) s) = _
  rw [if_neg (by simp [PortSetup.bytes]), hr]
  rfl

theorem setPort_interface {i : InterfaceSetup} (h : i.InRange) (s : State) :
    setPort (2 :: i.bytes) s = writePorts (some { s.setup with interface := i }) s := by
  have hr : readInterface i.bytes = some i := (readInterface_iff _ _).2 ⟨h, rfl⟩
  show (if i.bytes.length ≠ 5 then (s, refusal .badLength) else writePorts ((readInterface i.bytes).map _) s) = _
  rw [if_neg (by simp [InterfaceSetup.bytes]), hr]
  rfl

/-- R8: the PROVIDER check fails exactly when an enabled port needs more than the frame length. -/
theorem providerFits_false_iff (u : Setup) :
    u.providerFits = false ↔ u.interface.source = .provider
      ∧ (u.portA.enabled = true ∧ u.interface.frameLength < u.portA.slots * u.portA.pitch.bits + bit u.portA.delay
        ∨ u.portB.enabled = true
          ∧ u.interface.frameLength < u.portB.slots * u.portB.pitch.bits + bit u.portB.delay) := by
  unfold Setup.providerFits
  cases u.interface.source with
  | follower => simp
  | provider =>
    simp only [Bool.and_eq_false_iff, Bool.or_eq_false_iff, Bool.not_eq_false', decide_eq_false_iff_not, Nat.not_le,
      true_and]
    exact Iff.rfl

/-- Settles O34: a request in range reaches the write, and the write makes the two checks in order. -/
theorem setPortWritesWhileStopped : Obligations.SetPortWritesWhileStopped := by
  intro s u payload hserves hu
  have hwrite : setPort payload s = writePorts (some u) s := by
    rcases hu with ⟨p, hp, rfl, rfl⟩ | ⟨p, hp, rfl, rfl⟩ | ⟨i, hi, rfl, rfl⟩
    · exact setPort_portA hp s
    · exact setPort_portB hp s
    · exact setPort_interface hi s
  have hexec : exec .setPort s = .next ((writePorts (some u) s).1.answer (writePorts (some u) s).2) := by
    show Host.Outcome.next (serve 0x10 setPort s) = _
    rw [serve_serves setPort hserves, hwrite]
  rw [hexec]
  unfold writePorts
  constructor
  · intro hr
    rw [if_pos (by rw [hr]; decide)]
    rfl
  · intro hs
    rw [if_neg (not_not.2 hs)]
    dsimp only
    cases hf : u.providerFits with
    | true =>
      have hfit := mt (providerFits_false_iff u).2 (by rw [hf]; decide)
      rw [if_pos rfl, if_neg hfit]
    | false =>
      rw [if_neg (by decide), if_pos ((providerFits_false_iff u).1 hf)]
      rfl

/-! ### The GET requests (R22, R42, R63, R78, R101, R115, R143) -/

/-- A request that reports and leaves the state answers its report. -/
theorem serve_reports {s : State} {kind : Byte} {payload : List Byte} {act : List Byte → State → State × Answer}
    {data : List Byte} (h : Serves s kind payload) (report : act payload s = (s, okay data)) :
    (.next (serve kind act s) : Host.Outcome State Fault Refusal) = .next (s.answer (okay data)) := by
  rw [serve_serves act h, report]

/-- Settles O59: each GET request of a valid index answers its report and leaves the state. -/
theorem getRequestsReport : Obligations.GetRequestsReport := by
  intro s
  refine ⟨?_, ?_, ?_, ?_, ?_, ?_, ?_⟩
  · rintro target fields h rfl
    refine serve_reports h ?_
    simp only [getPort, readIndex_ofNat 3 (by decide)]
    fin_cases target <;> simp [portFields, interfaceReport]
  · intro m h
    refine serve_reports h ?_
    simp only [getMeasure, readIndex_ofNat 16 (by decide)]
  · intro c h
    refine serve_reports h ?_
    simp only [getCondition, readIndex_ofNat 32 (by decide)]
    cases s.conditions[c].phase <;> rfl
  · intro k h
    refine serve_reports h ?_
    simp only [getTimer, timerReport, readIndex_ofNat 4 (by decide)]
    cases s.timers[k].phase <;> simp [codeOf, TimerPhase.codes]
  · intro b h
    refine serve_reports h ?_
    simp only [getBinding, readIndex_ofNat 48 (by decide)]
  · intro h
    refine serve_reports h ?_
    simp [getLines, outputReport, inputReport, List.finRange]
  · intro k h
    refine serve_reports h ?_
    simp only [getUnit, UnitState.pages, List.length_append, readIndex_ofNat 4 (by decide)]
    cases s.units[k].phase <;> rfl

/-! ### The queue of commands and the hard reset -/

/-- Settles O1, by the definition of a step. -/
theorem stepRunsTheCommandInFront : Obligations.StepRunsTheCommandInFront := by
  intro c s
  rfl

theorem replicate_get {α : Type} {n : Nat} (x : α) (k : Fin n) : (Vector.replicate n x)[k] = x := by simp

theorem allPages_length : allPages.length = 256 := List.length_finRange

theorem afterReset_free (cause : ResetCause) (pins : ResetPins) (image : SetupImage) (queue : List Instr) :
    (State.afterReset cause pins image queue).store.free = allPages := by
  simp only [State.afterReset, resetStore]

theorem reset_free : State.reset.store.free = allPages := afterReset_free _ _ _ _

theorem reset_lowWaterTrue : LowWaterTrue State.reset := by
  unfold LowWaterTrue
  rw [reset_free, allPages_length]
  rfl

/-- R170: after a reset no unit and no record holds a page. -/
theorem reset_pagesPartitioned : PagesPartitioned State.reset where
  partition := by
    have hunits : State.reset.unitPages = [] := by
      simp [State.unitPages, State.reset, State.afterReset, UnitState.pages, clearedUnit]
    have hrecords : State.reset.recordPages = [] := rfl
    rw [reset_free, hunits, hrecords, List.append_nil, List.append_nil]
  idle k _ := replicate_get clearedUnit k
  armed k _ := congrArg UnitState.postPages (replicate_get clearedUnit k)

theorem reset_linkConsistent : LinkConsistent State.reset where
  requests := Nat.zero_le _
  replies := Nat.zero_le _
  notices := Nat.zero_le _
  dispatcher := ⟨fun _ => rfl, fun _ => rfl⟩
  sending := ⟨rfl, rfl⟩

theorem reset_engineConsistent : EngineConsistent State.reset where
  units _ k := congrArg UnitState.phase (replicate_get clearedUnit k)
  conditions _ c := congrArg ConditionState.phase (replicate_get resetCondition c)
  timers _ t := congrArg TimerState.phase (replicate_get resetTimer t)
  events _ := rfl
  iface _ := ⟨rfl, rfl, rfl⟩
  runNumber h := nomatch h
  receiving h := nomatch h
  provider h := nomatch h
  startup _ := .inl rfl
  reloading _ := rfl

theorem reset_indexConsistent : IndexConsistent State.reset where
  count := Nat.zero_le _
  ids := List.nodup_nil
  noZero _ h := nomatch h
  next := by decide

theorem reset_setupsInRange : SetupsInRange State.reset where
  working := defaultSetup_inRange
  image h := nomatch h
  copy _ h := nomatch h

theorem reset_tablesInRange : TablesInRange State.reset where
  timers t := by simp [State.reset, State.afterReset, defaultSetup, TimerInRange, resetTimer]
  conditions c := by simp [State.reset, State.afterReset, ConditionInRange, resetCondition]
  measures m := by
    simp [State.reset, State.afterReset, defaultSetup, defaultMeasure, MeasureInRange, clearedMeasure]
  inputs i := by fin_cases i <;> rfl

theorem reset_capturesInRange : CapturesInRange State.reset where
  units k h := absurd (congrArg UnitState.phase (replicate_get clearedUnit k)) h
  records _ h := nomatch h

/-- Settles O12, invariant by invariant. -/
theorem resetHasEveryInvariant : Obligations.ResetHasEveryInvariant :=
  ⟨rfl, List.Pairwise.nil, reset_linkConsistent, reset_pagesPartitioned, reset_lowWaterTrue, reset_indexConsistent,
    reset_engineConsistent, reset_setupsInRange, reset_tablesInRange, reset_capturesInRange⟩

/-- Settles O21: the state after a hard reset, table by table. -/
theorem hardResetGivesResetValues : Obligations.HardResetGivesResetValues := by
  intro s cause pins
  refine ⟨State.afterReset cause pins s.image s.pending, rfl, rfl, rfl, rfl, rfl, rfl, rfl, rfl, rfl, ?measures,
    ?conditions, ?timers, ?bindings, ?outputs, ?inputs, ?units, rfl, rfl, ?free, rfl, rfl, rfl, rfl, rfl, rfl, rfl, rfl,
    rfl, rfl, rfl, ?rate, rfl, rfl, rfl, rfl, rfl, rfl, rfl, rfl, rfl, rfl, rfl, rfl, rfl, fun _ => rfl, ?lanes, rfl,
    ?workPins, rfl, rfl, rfl, rfl, rfl⟩
  case measures =>
    intro m
    simp [State.afterReset, defaultSetup, defaultMeasure, clearedMeasure]
  case conditions =>
    exact fun c => ⟨replicate_get defaultCondition c, replicate_get resetCondition c⟩
  case timers =>
    exact fun k => ⟨replicate_get defaultTimer k, replicate_get resetTimer k⟩
  case bindings => exact fun b => replicate_get defaultBinding b
  case outputs =>
    intro o
    simp [State.afterReset, defaultSetup, defaultOutput, State.pin, pinLevel]
  case inputs =>
    intro i
    fin_cases i <;> exact ⟨rfl, rfl, rfl⟩
  case units => exact fun k => ⟨replicate_get defaultUnit k, replicate_get clearedUnit k⟩
  case free => rw [afterReset_free, allPages_length]
  case rate => obtain ⟨⟩ := pins; rfl
  case lanes => exact fun l => replicate_get 0 l
  case workPins => exact fun o => replicate_get false o

end Sys2Proof.Machine

namespace Sys2Proof.Machine

/-! ### What a take leaves of the evaluated frame (R16, R27, R49) -/

/-- The state on which the actions of frame `f` work: taken, measured and evaluated. -/
def State.evaluatedFrame (f : HeldFrame) (s : State) : State := ((s.beginTake f).updateMeasures).evaluate

/-- R16: a field that neither the actions nor the work of the units touch is as the evaluation left it. -/
theorem workFrame_keeps {α : Type} (field : State → α)
    (conditions : ∀ {s t : State}, OnlyConditions s t → field t = field s)
    (levels : ∀ {s t : State}, OnlyLevels s t → field t = field s)
    (work : ∀ {s t : State}, OnlyWork s t → field t = field s)
    (f : HeldFrame) (during : List StreamEvent) (s : State) :
    field (s.workFrame f during) = field (s.evaluatedFrame f) := by
  rw [workFrame_stages]
  exact (work (interleave_only _ _ _ _ _ _ _ _)).trans
    ((levels (lineActions_only _ _)).trans (conditions (conditionActions_only _ _)))

/-- R96: with nothing on the stream pins during the work, the interface is as the take left it. -/
theorem workFrame_nil_iface (f : HeldFrame) (s : State) :
    (s.workFrame f []).iface = { s.iface with holding := none } := by
  rw [workFrame_stages, interleave_nil]
  calc _ = _ := (unitWorks_only _ _ _ _ _).iface
    _ = _ := (OnlyLink.foldl _ (fun a b => offerEvent_only _ _ a b) _ _).iface
    _ = _ := (timerActions_only _ _ _).iface
    _ = _ := (lineActions_only _ _).iface
    _ = _ := (conditionActions_only _ _).iface

/-! ### A frame that fires no binding -/

theorem winner_nil (bs : Vector Binding 48) (order : List Action) (target : Nat) : winner bs [] order target = none := by
  simp [winner, reaches]

theorem notifying_nil (bs : Vector Binding 48) : notifying bs [] = [] := List.filter_nil

theorem conditionActions_nil (cs : List (Fin 32)) (s : State) : cs.foldl (fun a c => a.conditionAction [] c) s = s := by
  refine List.foldl_fixed' (fun c => ?_) cs
  unfold State.conditionAction
  rw [winner_nil]

theorem lineActions_nil (os : List (Fin 4)) (s : State) : os.foldl (fun a o => a.lineAction [] o) s = s := by
  refine List.foldl_fixed' (fun o => ?_) os
  unfold State.lineAction
  rw [winner_nil]

theorem timerActions_nil (ts : List (Fin 4)) (s : State) : ts.foldl (fun a t => a.timerAction [] t) s = s := by
  refine List.foldl_fixed' (fun t => ?_) ts
  unfold State.timerAction
  rw [winner_nil]

theorem unitAction_nil (frame : FrameNumber) (word : BitVec 32) (k : Fin 4) (s : State) :
    s.unitAction [] frame word k = s := by
  unfold State.unitAction
  rw [winner_nil]

theorem handleFrame_idle {k : Fin 4} {s : State} (h : s.units[k].phase = .idle) (frame : FrameNumber) :
    s.handleFrame k frame = s := by
  unfold State.handleFrame
  rw [h]

theorem unitWorks_nil {s : State} (hidle : ∀ k : Fin 4, s.units[k].phase = .idle) (frame : FrameNumber)
    (word : BitVec 32) (us : List (Fin 4)) : us.foldl (State.unitWork [] frame word) s = s := by
  refine List.foldl_fixed' (fun k => ?_) us
  unfold State.unitWork
  rw [unitAction_nil, handleFrame_idle (hidle k)]

theorem fixTrigger_idle {u : UnitState} (h : u.phase = .idle) (frame : FrameNumber) : u.fixTrigger frame = u := by
  unfold UnitState.fixTrigger
  rw [h]

/-- R94, R120: with no binding fired and every unit IDLE, the work ends with the evaluation. -/
theorem workFrame_quiet {f : HeldFrame} {s : State} (hfired : s.firedAt f = [])
    (hidle : ∀ k : Fin 4, (s.evaluatedFrame f).units[k].phase = .idle) : s.workFrame f [] = s.evaluatedFrame f := by
  rw [workFrame_stages, interleave_nil, hfired, conditionActions_nil, lineActions_nil, timerActions_nil, notifying_nil,
    List.foldl_nil]
  exact unitWorks_nil hidle _ _ _

/-- With every unit IDLE a take leaves the units as they are. -/
theorem evaluatedFrame_units {f : HeldFrame} {s : State} (hidle : ∀ k : Fin 4, s.units[k].phase = .idle) :
    (s.evaluatedFrame f).units = s.units :=
  table_ext fun k => (tab_get _ k).trans (fixTrigger_idle (hidle k) f.number)

theorem evaluatedFrame_workPins (f : HeldFrame) (s : State) (o : Fin 4) :
    (s.evaluatedFrame f).workPins[o] = pinLevel s.setup.outputs[o] s.actionLevels[o] (s.conditionsAt f) :=
  tab_get _ o

theorem evaluatedFrame_lanes (f : HeldFrame) (s : State) (l : Fin 16) :
    (s.evaluatedFrame f).lanes[l] =
      if s.setup.present l then
        (if l.val < 8 then f.slotsA.getD l.val 0 else f.slotsB.getD (l.val - 8) 0)
      else 0 :=
  tab_get _ l

/-- The evaluated state, written out field by field. -/
theorem evaluatedFrame_eq {f : HeldFrame} {s : State} (hidle : ∀ k : Fin 4, s.units[k].phase = .idle) :
    s.evaluatedFrame f =
      { s with
        iface := { s.iface with holding := none }, lanes := (s.evaluatedFrame f).lanes
        lastTaken := (s.evaluatedFrame f).lastTaken, measures := (s.evaluatedFrame f).measures
        conditions := s.conditionsAt f, workPins := (s.evaluatedFrame f).workPins, events := [] } := by
  conv_rhs => rw [show s = { s with units := (s.evaluatedFrame f).units } by rw [evaluatedFrame_units hidle]]
  rfl

/-- Settles O43: the fields the work leaves alone are those of the evaluated frame; with nothing to do, all are. -/
theorem takeWorksTheFrame : Obligations.TakeWorksTheFrame := by
  intro s f during he hh
  obtain ⟨hsetup, himage, hrequests, -, hreplies⟩ := workFrame_controlStands f during s
  have hlanes := workFrame_keeps State.lanes (·.lanes) (·.lanes) (·.lanes) f during s
  have hpins := workFrame_keeps State.workPins (·.workPins) (·.workPins) (·.workPins) f during s
  refine ⟨s.workFrame f during, execTake_held during s f he hh, ?lanes, ?measures, ?lastTaken, ?pins, ?engine, ?run, hsetup,
    himage, ?startup, ?inputs, ?pending, hrequests, hreplies, ?iface, ?quiet⟩
  case lanes =>
    intro l
    rw [hlanes, evaluatedFrame_lanes]
  case measures => exact workFrame_keeps State.measures (·.measures) (·.measures) (·.measures) f during s
  case lastTaken => exact workFrame_keeps State.lastTaken (·.lastTaken) (·.lastTaken) (·.lastTaken) f during s
  case pins =>
    intro o
    rw [hpins, evaluatedFrame_workPins]
  case engine => exact workFrame_keeps State.engine (·.engine) (·.engine) (·.engine) f during s
  case run => exact workFrame_keeps State.runNumber (·.runNumber) (·.runNumber) (·.runNumber) f during s
  case startup => exact workFrame_keeps State.startup (·.startup) (·.startup) (·.startup) f during s
  case inputs => exact workFrame_keeps State.inputs (·.inputs) (·.inputs) (·.inputs) f during s
  case pending => exact workFrame_keeps State.pending (·.pending) (·.pending) (·.pending) f during s
  case iface =>
    rintro rfl
    exact workFrame_nil_iface f s
  case quiet =>
    rintro rfl hfired hidle
    rw [workFrame_quiet hfired (by rw [evaluatedFrame_units hidle]; exact hidle)]
    exact evaluatedFrame_eq hidle

end Sys2Proof.Machine

namespace Sys2Proof.Machine

/-! ### The arithmetic of the measures (R28 to R34) -/

/-- A number in the lane-value range is the value of its lane. -/
theorem lane_ofInt_toInt {x : Int} (hlow : -8388608 ≤ x) (hhigh : x ≤ 8388607) :
    (BitVec.ofInt 24 x : Lane).toInt = x := by
  rw [BitVec.toInt_ofInt, Int.bmod_eq_of_le (by omega) (by omega)]

/-- A result outside the lane-value range is replaced by the nearer bound. -/
theorem clamp_toInt (x : Int) : (clamp x).toInt = max (-8388608) (min 8388607 x) := by
  unfold clamp laneMax laneMin
  rw [lane_ofInt_toInt (by split_ifs <;> omega) (by split_ifs <;> omega)]
  split_ifs <;> omega

theorem lane_bounds (v : Lane) : -8388608 ≤ v.toInt ∧ v.toInt ≤ 8388607 :=
  ⟨BitVec.le_toInt v, Int.le_of_lt_add_one BitVec.toInt_lt⟩

theorem laneLarger_toInt (a b : Lane) : (laneLarger a b).toInt = max a.toInt b.toInt := by
  unfold laneLarger
  split <;> omega

theorem laneSmaller_toInt (a b : Lane) : (laneSmaller a b).toInt = min a.toInt b.toInt := by
  unfold laneSmaller
  split <;> omega

/-- R33: the shifted product is the product divided by 8388608, rounded toward minus infinity. -/
theorem shiftedProduct_bounds (a b : Lane) :
    shiftedProduct a b * 8388608 ≤ a.toInt * b.toInt ∧ a.toInt * b.toInt < (shiftedProduct a b + 1) * 8388608 := by
  unfold shiftedProduct
  rw [Int.fdiv_eq_ediv_of_nonneg _ (by decide)]
  omega

/-- R33: two lane values have a product of at most 2^46. -/
theorem lane_product_bounds (a b : Lane) :
    -(8388608 * 8388608) ≤ a.toInt * b.toInt ∧ a.toInt * b.toInt ≤ 8388608 * 8388608 := by
  obtain ⟨ha, ha'⟩ := lane_bounds a
  obtain ⟨hb, hb'⟩ := lane_bounds b
  refine abs_le.1 ?_
  rw [abs_mul]
  exact mul_le_mul (abs_le.2 ⟨ha, by omega⟩) (abs_le.2 ⟨hb, by omega⟩) (abs_nonneg _) (by decide)

/-- R29: what one frame can contribute to a running sum. -/
theorem windowTerm_bounds (kind : MeasureKind) (a b : Lane) :
    -8388608 ≤ windowTerm kind a b ∧ windowTerm kind a b ≤ 8388608 := by
  obtain ⟨ha, ha'⟩ := lane_bounds a
  cases kind
  case mean => exact ⟨ha, by simp only [windowTerm]; omega⟩
  case meanprod =>
    obtain ⟨hlow, hhigh⟩ := shiftedProduct_bounds a b
    obtain ⟨plow, phigh⟩ := lane_product_bounds a b
    simp only [windowTerm]
    omega
  all_goals simp [windowTerm]

/-! ### One measure at a taken frame (R27 to R29) -/

theorem updateMeasure_disabled {u : MeasureSetup} (h : u.enabled = false) (lanes : Vector Lane 16) (m : MeasureState) :
    updateMeasure u lanes m = { m with fresh := false } := by
  simp [updateMeasure, h]

theorem updateMeasure_perFrame {u : MeasureSetup} (h : u.enabled = true) (hk : u.kind.perFrame = true)
    (lanes : Vector Lane 16) (m : MeasureState) :
    updateMeasure u lanes m =
      { m with output := frameOutput u.kind lanes[u.laneA] lanes[u.laneB], fresh := true } := by
  simp [updateMeasure, h, hk]

theorem updateMeasure_window {u : MeasureSetup} (h : u.enabled = true) (hk : u.kind.perFrame = false)
    (lanes : Vector Lane 16) (m : MeasureState) {t : MeasureState}
    (ht : windowTake u.kind lanes[u.laneA] lanes[u.laneB] m = t) :
    updateMeasure u lanes m =
      if t.position = u.window then
        { clearedMeasure with output := windowOutput u.kind t.largest t.smallest t.sum u.window, fresh := true }
      else { t with fresh := false } := by
  subst ht
  simp [updateMeasure, h, hk]

/-- R29: the window after a frame is the one with these accumulators; the output and the fresh mark wait for its close. -/
theorem windowTake_eq {kind : MeasureKind} {a b : Lane} {m t : MeasureState} (hpos : t.position = m.position + 1)
    (hlargest : t.largest.toInt = if m.position = 0 then a.toInt else max m.largest.toInt a.toInt)
    (hsmallest : t.smallest.toInt = if m.position = 0 then a.toInt else min m.smallest.toInt a.toInt)
    (hsum : t.sum = (if m.position = 0 then 0 else m.sum) + windowTerm kind a b) :
    windowTake kind a b m = { t with output := m.output, fresh := m.fresh } := by
  obtain ⟨output, fresh, position, largest, smallest, sum⟩ := t
  dsimp only at hpos hlargest hsmallest hsum
  subst hpos hsum
  unfold windowTake
  by_cases h0 : m.position = 0
  · rw [if_pos h0] at hlargest hsmallest
    rw [if_pos h0, BitVec.eq_of_toInt_eq hlargest, BitVec.eq_of_toInt_eq hsmallest]
    simp [h0]
  · rw [if_neg h0, ← laneLarger_toInt] at hlargest
    rw [if_neg h0, ← laneSmaller_toInt] at hsmallest
    rw [if_neg h0, BitVec.eq_of_toInt_eq hlargest, BitVec.eq_of_toInt_eq hsmallest]
    simp [h0]

/-- Settles O35: the three kinds, each with the range its result is clamped to. -/
theorem perFrameMeasures : Obligations.PerFrameMeasures := by
  intro u lanes m he
  have output : ∀ {kind}, u.kind = kind → kind.perFrame = true →
      updateMeasure u lanes m = { m with output := frameOutput kind lanes[u.laneA] lanes[u.laneB], fresh := true } := by
    rintro _ rfl hk
    exact updateMeasure_perFrame he hk lanes m
  refine ⟨fun h => output h rfl, fun h => ⟨_, output h rfl, clamp_toInt _⟩, fun h => ⟨_, output h rfl, ?_⟩⟩
  obtain ⟨hlow, -⟩ := lane_bounds lanes[u.laneA]
  show (clamp _).toInt = _
  rw [clamp_toInt, abs_eq_max_neg]
  split <;> omega

/-- Settles O36: the window by its accumulators, then the terms and the outputs kind by kind. -/
theorem windowMeasures : Obligations.WindowMeasures := by
  constructor
  · intro u lanes m t
    refine ⟨fun h => updateMeasure_disabled h lanes m, fun he hk hpos hlargest hsmallest hsum => ?_⟩
    rw [updateMeasure_window he hk lanes m (windowTake_eq hpos hlargest hsmallest hsum)]
    dsimp only
    rw [hpos]
    rfl
  · intro a b largest smallest sum w
    exact ⟨rfl, shiftedProduct_bounds a b, rfl, rfl, rfl, rfl, rfl, clamp_toInt _, lane_ofInt_toInt, clamp_toInt _⟩

end Sys2Proof.Machine

namespace Sys2Proof.Machine

/-! ### SET_MEASURE, SET_CONDITION, SET_TIMER and SET_UNIT (R41, R62, R77, R142) -/

/-- R41, R40: fields in range write the measure while STOPPED. -/
theorem setMeasure_inRange {u : MeasureSetup} (h : u.InRange) (m : Fin 16) (s : State) :
    setMeasure (BitVec.ofNat 8 m.val :: u.bytes) s =
      if s.engine ≠ .stopped then (s, refusal .state)
      else
        ({ s with
            setup := { s.setup with measures := put s.setup.measures m u }
            measures := put s.measures m clearedMeasure }, okay []) := by
  simp only [setMeasure, readIndex_ofNat 16 (by decide), (readMeasure_iff _ _).2 ⟨h, rfl⟩]
  rw [if_neg (by simp [MeasureSetup.bytes])]

/-- R62: fields in range write a DISARMED condition. -/
theorem setCondition_inRange {u : ConditionSetup} (h : u.InRange) (c : Fin 32) (s : State) :
    setCondition (BitVec.ofNat 8 c.val :: u.bytes) s =
      if s.conditions[c].phase ≠ .disarmed then (s, refusal .inUse)
      else
        ({ s with
            setup := { s.setup with conditions := put s.setup.conditions c u }
            conditions := put s.conditions c { s.conditions[c] with runCount := 0 } }, okay []) := by
  simp only [setCondition, readIndex_ofNat 32 (by decide), (readCondition_iff _ _).2 ⟨h, rfl⟩]
  rw [if_neg (by simp [ConditionSetup.bytes, laneBytes])]

/-- R77: fields in range write an IDLE timer. -/
theorem setTimer_inRange {u : TimerSetup} (h : u.InRange) (k : Fin 4) (s : State) :
    setTimer (BitVec.ofNat 8 k.val :: u.bytes) s =
      if s.timers[k].phase ≠ .idle then (s, refusal .inUse)
      else
        ({ s with
            setup := { s.setup with timers := put s.setup.timers k u }
            timers := put s.timers k { s.timers[k] with count := 0 } }, okay []) := by
  simp only [setTimer, readIndex_ofNat 4 (by decide), (readTimer_iff _ _).2 ⟨h, rfl⟩]
  rw [if_neg (by simp [TimerSetup.bytes])]

/-- R142: fields in range write an IDLE unit, unless the engine runs and the mask names an absent lane. -/
theorem setUnit_inRange {u : UnitSetup} (h : u.InRange) (k : Fin 4) (s : State) :
    setUnit (BitVec.ofNat 8 k.val :: u.bytes) s =
      if s.units[k].phase ≠ .idle then (s, refusal .inUse)
      else if s.engine = .running ∧ ¬ (maskLanes u.mask).all s.setup.present then (s, refusal .setupConflict)
      else
        (State.setUnitState k clearedUnit { s with setup := { s.setup with units := put s.setup.units k u } },
          okay []) := by
  simp only [setUnit, readIndex_ofNat 4 (by decide), (readUnit_iff _ _).2 ⟨h, rfl⟩]
  rw [if_neg (by simp [UnitSetup.bytes])]

/-- R142: a mask fails the check exactly when it names an absent lane. -/
theorem mask_names_absent_iff (mask : BitVec 16) (u : Setup) :
    ¬ (maskLanes mask).all u.present ↔ ∃ l : Fin 16, mask.getLsbD l.val = true ∧ u.present l = false := by
  simp [maskLanes, inMask, List.all_eq_true]

/-- Settles O37: each SET request of fields in range, served, by the state of its entry. -/
theorem setRequestsWriteIdleEntries : Obligations.SetRequestsWriteIdleEntries := by
  refine ⟨?_, ?_, ?_, ?_⟩
  · intro s m u hu hserves
    have hexec : exec .setMeasure s = .next _ := congrArg Host.Outcome.next (serve_serves setMeasure hserves)
    rw [hexec, setMeasure_inRange hu]
    refine ⟨fun hr => ?_, fun hs => ?_⟩
    · rw [if_pos (by rw [hr]; decide)]; rfl
    · rw [if_neg (not_not.2 hs)]; rfl
  · intro s c u hu hserves
    have hexec : exec .setCondition s = .next _ := congrArg Host.Outcome.next (serve_serves setCondition hserves)
    rw [hexec, setCondition_inRange hu]
    refine ⟨fun hp => ?_, fun hd => ?_⟩
    · rw [if_pos hp]; rfl
    · rw [if_neg (not_not.2 hd), ← hd]
  · intro s k u hu hserves
    have hexec : exec .setTimer s = .next _ := congrArg Host.Outcome.next (serve_serves setTimer hserves)
    rw [hexec, setTimer_inRange hu]
    refine ⟨fun hp => ?_, fun hi => ?_⟩
    · rw [if_pos hp]; rfl
    · rw [if_neg (not_not.2 hi)]
  · intro s k u hu hserves
    have hexec : exec .setUnit s = .next _ := congrArg Host.Outcome.next (serve_serves setUnit hserves)
    rw [hexec, setUnit_inRange hu]
    refine ⟨fun hp => ?_, fun hi => ?_⟩
    · rw [if_pos hp]; rfl
    · rw [if_neg (not_not.2 hi)]
      simp only [mask_names_absent_iff]
      split <;> rfl

end Sys2Proof.Machine

namespace Sys2Proof.Machine

/-! ### One measure in its range (R26, R29) -/

/-- R29, R40: a measure between windows. -/
theorem measureInRange_betweenWindows {u : MeasureSetup} (h : 1 ≤ u.window) (output : Lane) (fresh : Bool) :
    MeasureInRange u { clearedMeasure with output := output, fresh := fresh } :=
  ⟨h, fun _ => rfl, fun _ => ⟨rfl, rfl, rfl⟩, by simp [clearedMeasure], by simp [clearedMeasure]⟩

theorem clearedMeasure_inRange {u : MeasureSetup} (h : u.InRange) : MeasureInRange u clearedMeasure :=
  measureInRange_betweenWindows h.1 _ _

@[simp] theorem windowTake_position (kind : MeasureKind) (a b : Lane) (m : MeasureState) :
    (windowTake kind a b m).position = m.position + 1 := by
  unfold windowTake
  split <;> simp [*]

@[simp] theorem windowTake_sum (kind : MeasureKind) (a b : Lane) (m : MeasureState) :
    (windowTake kind a b m).sum = (if m.position = 0 then 0 else m.sum) + windowTerm kind a b := by
  unfold windowTake
  split <;> simp

/-- R29: the sum over a window grows by at most 8388608 in size with each frame. -/
theorem windowTake_sum_bounds (kind : MeasureKind) (a b : Lane) {m : MeasureState}
    (hlow : -(8388608 * m.position) ≤ m.sum) (hhigh : m.sum ≤ 8388608 * (m.position : Int)) :
    -(8388608 * (windowTake kind a b m).position) ≤ (windowTake kind a b m).sum
      ∧ (windowTake kind a b m).sum ≤ 8388608 * ((windowTake kind a b m).position : Int) := by
  obtain ⟨tlow, thigh⟩ := windowTerm_bounds kind a b
  rw [windowTake_position, windowTake_sum]
  split <;> omega

theorem updateMeasure_inRange {u : MeasureSetup} {m : MeasureState} (h : MeasureInRange u m) (lanes : Vector Lane 16) :
    MeasureInRange u (updateMeasure u lanes m) := by
  cases he : u.enabled with
  | false => rw [updateMeasure_disabled he]; exact h
  | true =>
    cases hk : u.kind.perFrame with
    | true => rw [updateMeasure_perFrame he hk]; exact h
    | false =>
      obtain ⟨hpos, -, -, hlow, hhigh⟩ := h
      rw [updateMeasure_window he hk lanes m rfl]
      split
      · exact measureInRange_betweenWindows (by omega) _ _
      · rename_i hopen
        rw [windowTake_position] at hopen
        refine ⟨?_, fun hf => absurd hf (by rw [hk]; decide), fun h0 => absurd h0 (by simp), ?_⟩
        · show (windowTake _ _ _ m).position < u.window
          rw [windowTake_position]
          omega
        · exact windowTake_sum_bounds _ _ _ hlow hhigh

/-! ### One condition in its range (R46) -/

theorem conditionInRange_disarmed {u : ConditionSetup} {c : ConditionState} (h : c.phase = .disarmed) :
    ConditionInRange u c ↔ c.runCount = 0 := by
  unfold ConditionInRange
  rw [h]

theorem conditionInRange_watching {u : ConditionSetup} {c : ConditionState} (h : c.phase = .watching) :
    ConditionInRange u c ↔ c.runCount < u.qualify := by
  unfold ConditionInRange
  rw [h]

theorem conditionInRange_asserted {u : ConditionSetup} {c : ConditionState} (h : c.phase = .asserted) :
    ConditionInRange u c ↔ c.runCount < u.release ∧ (u.latched = true → c.runCount = 0) := by
  unfold ConditionInRange
  rw [h]

/-- R46: a condition whose run count is 0 is in range in every state. -/
theorem conditionInRange_zero {u : ConditionSetup} (hu : u.InRange) {c : ConditionState} (h : c.runCount = 0) :
    ConditionInRange u c := by
  obtain ⟨-, hq, -, hr, -, -⟩ := hu
  cases hp : c.phase with
  | disarmed => exact (conditionInRange_disarmed hp).2 h
  | watching => exact (conditionInRange_watching hp).2 (by omega)
  | asserted => exact (conditionInRange_asserted hp).2 ⟨by omega, fun _ => h⟩

theorem condArm_inRange {u : ConditionSetup} {c : ConditionState} (hu : u.InRange) (h : ConditionInRange u c) :
    ConditionInRange u (condArm u c) := by
  unfold condArm
  split
  · exact conditionInRange_zero hu rfl
  · exact h
  · exact h

theorem condDisarm_inRange {u : ConditionSetup} {c : ConditionState} (hu : u.InRange) (h : ConditionInRange u c) :
    ConditionInRange u (condDisarm u c) := by
  unfold condDisarm
  split
  · exact h
  · exact conditionInRange_zero hu rfl
  · exact conditionInRange_zero hu rfl

theorem condUnlatch_inRange {u : ConditionSetup} {c : ConditionState} (hu : u.InRange) (h : ConditionInRange u c) :
    ConditionInRange u (condUnlatch u c) := by
  unfold condUnlatch
  split
  · exact h
  · exact h
  · split
    · exact conditionInRange_zero hu rfl
    · exact h

/-- R50 to R52: the run count is set back before it reaches the qualify or the release count. -/
theorem evalCondition_inRange {u : ConditionSetup} {c : ConditionState} (hu : u.InRange) (h : ConditionInRange u c)
    (m : MeasureState) : ConditionInRange u (evalCondition u m c) := by
  unfold evalCondition
  split
  · split
    · exact h
    · rename_i hp
      have hrun := (conditionInRange_watching hp).1 h
      split
      · split
        · exact conditionInRange_zero hu rfl
        · exact (conditionInRange_watching (by exact hp)).2 (by dsimp only; omega)
      · exact conditionInRange_zero hu rfl
    · rename_i hp
      obtain ⟨hrun, -⟩ := (conditionInRange_asserted hp).1 h
      split
      · exact h
      · rename_i hlatch
        split
        · split
          · exact conditionInRange_zero hu rfl
          · exact (conditionInRange_asserted (by exact hp)).2 ⟨by dsimp only; omega, fun l => absurd l hlatch⟩
        · exact conditionInRange_zero hu rfl
  · exact h

/-! ### One timer in its range (R68) -/

theorem timerInRange_idle {u : TimerSetup} {t : TimerState} (hp : t.phase = .idle) (hc : t.count ≤ u.period) :
    TimerInRange u t :=
  ⟨hc, fun h => absurd hp h⟩

/-- R72: a timer at the beginning of a full period. -/
theorem timerInRange_full {u : TimerSetup} (hu : u.InRange) {t : TimerState} (hc : t.count = u.startCount) :
    TimerInRange u t := by
  obtain ⟨hp, -⟩ := hu
  unfold TimerSetup.startCount at hc
  unfold TimerInRange
  cases hd : u.direction <;> rw [hd] at hc <;> dsimp only at hc ⊢ <;> omega

/-- R72: a timer between RUNNING and HELD keeps its count. -/
theorem TimerInRange.sameCount {u : TimerSetup} {t v : TimerState} (h : TimerInRange u t) (hp : t.phase ≠ .idle)
    (hc : v.count = t.count) : TimerInRange u v := by
  obtain ⟨hle, hdir⟩ := h
  unfold TimerInRange
  rw [hc]
  exact ⟨hle, fun _ => hdir hp⟩

theorem timerStart_inRange {u : TimerSetup} {t : TimerState} (hu : u.InRange) (_ : TimerInRange u t) :
    TimerInRange u (timerStart u t) :=
  timerInRange_full hu rfl

theorem timerStop_inRange {u : TimerSetup} {t : TimerState} (_ : u.InRange) (h : TimerInRange u t) :
    TimerInRange u (timerStop u t) := by
  unfold timerStop
  split
  · rename_i hp; exact h.sameCount (by rw [hp]; decide) rfl
  · exact h
  · exact h

theorem timerResume_inRange {u : TimerSetup} {t : TimerState} (_ : u.InRange) (h : TimerInRange u t) :
    TimerInRange u (timerResume u t) := by
  unfold timerResume
  split
  · rename_i hp; exact h.sameCount (by rw [hp]; decide) rfl
  · exact h
  · exact h

/-- R70: a RUNNING timer that is not at its expiry moves by one inside its range. -/
theorem timerMoved_inRange {u : TimerSetup} {t : TimerState} (h : TimerInRange u t) (hp : t.phase = .running)
    (hnot : timerMoved u t ≠ u.endCount) : TimerInRange u { t with count := timerMoved u t } := by
  obtain ⟨hle, hdir⟩ := h
  replace hdir := hdir (by rw [hp]; decide)
  unfold timerMoved TimerSetup.endCount at hnot
  unfold TimerInRange timerMoved
  cases hd : u.direction <;> rw [hd] at hnot hdir <;> dsimp only at hnot hdir ⊢ <;> omega

theorem endCount_le (u : TimerSetup) : u.endCount ≤ u.period := by
  unfold TimerSetup.endCount
  split
  · exact Nat.zero_le _
  · exact Nat.le_refl _

theorem timerAdvance_inRange {u : TimerSetup} {t : TimerState} (hu : u.InRange) (h : TimerInRange u t) :
    TimerInRange u (timerAdvance u t) := by
  unfold timerAdvance
  split
  · exact h
  · exact h
  · rename_i hp
    split
    · split
      · exact timerInRange_full hu rfl
      · exact timerInRange_idle rfl (endCount_le u)
    · exact timerMoved_inRange h hp (by assumption)

theorem runTimer_inRange {u : TimerSetup} (hu : u.InRange) (t : TimerState) : TimerInRange u (runTimer u t) := by
  unfold runTimer
  split
  · exact timerInRange_full hu rfl
  · exact timerInRange_idle rfl (Nat.zero_le _)

/-! ### One input in its range (R111) -/

/-- R111: a hold measurement runs exactly while the pin differs from the filtered level. -/
def InputState.Measuring (i : InputState) : Prop := i.hold = none ↔ i.pin = i.filtered

theorem inputInRange_iff (filter : Nat) (i : InputState) :
    InputInRange filter i ↔ i.Measuring ∧ ∀ time, i.hold = some time → filterReached time filter = false := by
  unfold InputInRange InputState.Measuring
  cases i.hold <;> simp

theorem InputInRange.measuring {filter : Nat} {i : InputState} (h : InputInRange filter i) : i.Measuring :=
  ((inputInRange_iff filter i).1 h).1

/-- R111, R112: an input whose hold measurement stands at `time`: accepted when that reaches the filter time. -/
def InputState.held (filter time : Nat) (i : InputState) : InputState :=
  if filterReached time filter then { i with filtered := i.pin, hold := none } else { i with hold := some time }

theorem held_inRange {i : InputState} (h : i.pin ≠ i.filtered) (filter time : Nat) :
    InputInRange filter (i.held filter time) := by
  unfold InputState.held
  split
  · exact rfl
  · rename_i hnot
    exact ⟨h, Bool.eq_false_iff.2 hnot⟩

/-- R111, R113: an input whose pin holds its level for `periods` more samples. -/
def InputState.heldOn (filter periods : Nat) (i : InputState) : InputState :=
  match i.hold with
  | none => i
  | some time => i.held filter (time + periods)

theorem heldOn_inRange {i : InputState} (h : i.Measuring) (filter periods : Nat) :
    InputInRange filter (i.heldOn filter periods) := by
  unfold InputState.heldOn
  split
  · rename_i hh
    exact (inputInRange_iff _ _).2 ⟨h, fun _ e => nomatch hh.symm.trans e⟩
  · rename_i hh
    exact held_inRange (mt h.2 (by rw [hh]; exact nofun)) _ _

/-- R111: an input whose pin is sampled at `level`. -/
def InputState.sampled (filter : Nat) (level : Bool) (i : InputState) : InputState :=
  if level = i.filtered then { i with pin := level, hold := none }
  else match i.hold with
    | none => InputState.held filter 0 { i with pin := level }
    | some _ => { i with pin := level }

theorem sampled_inRange {filter : Nat} {i : InputState} (h : InputInRange filter i) (level : Bool) :
    InputInRange filter (i.sampled filter level) := by
  obtain ⟨-, hnot⟩ := (inputInRange_iff _ _).1 h
  unfold InputState.sampled
  split
  · rename_i heq
    exact heq
  · rename_i hne
    split
    · exact held_inRange hne _ _
    · rename_i hh
      exact (inputInRange_iff _ _).2 ⟨iff_of_false (by dsimp only; rw [hh]; exact nofun) hne, hnot⟩

theorem acceptInput_inputs (i : Fin 2) (s : State) :
    (s.acceptInput i).inputs = put s.inputs i { s.inputs[i] with filtered := s.inputs[i].pin, hold := none } := by
  simp [State.acceptInput]

theorem measureHold_inputs (i : Fin 2) (time : Nat) (s : State) :
    (s.measureHold i time).inputs = put s.inputs i (s.inputs[i].held s.setup.filters[i] time) := by
  unfold State.measureHold InputState.held
  split
  · exact acceptInput_inputs i s
  · rfl

theorem put_put {α : Type} {n : Nat} (v : Vector α n) (k : Fin n) (x y : α) : put (put v k x) k y = put v k y := by
  simp [put]

theorem holdPin_inputs (i : Fin 2) (periods : Nat) (s : State) :
    (s.holdPin i periods).inputs = put s.inputs i (s.inputs[i].heldOn s.setup.filters[i] periods) := by
  unfold State.holdPin InputState.heldOn
  cases s.inputs[i].hold with
  | none => exact (put_same _ _).symm
  | some time => exact measureHold_inputs _ _ _

theorem samplePin_inputs (i : Fin 2) (level : Bool) (s : State) :
    (s.samplePin i level).inputs = put s.inputs i (s.inputs[i].sampled s.setup.filters[i] level) := by
  unfold State.samplePin InputState.sampled
  dsimp only
  split
  · rfl
  · cases s.inputs[i].hold with
    | none =>
      dsimp only
      rw [measureHold_inputs, put_put, put_get_self]
    | some time => rfl

/-- R113: a changed filter time judges the running hold measurement as it stands. -/
theorem refilter_eq_holdPin (i : Fin 2) (s : State) : s.refilter i = s.holdPin i 0 := by
  unfold State.refilter State.holdPin
  split <;> rfl

theorem refilter_self (i : Fin 2) (s : State) :
    (s.refilter i).inputs[i] = s.inputs[i].heldOn s.setup.filters[i] 0 := by
  rw [refilter_eq_holdPin, holdPin_inputs, put_get_self]

theorem refilter_other {i j : Fin 2} (h : j ≠ i) (s : State) : (s.refilter i).inputs[j] = s.inputs[j] := by
  rw [refilter_eq_holdPin, holdPin_inputs, put_get_ne _ _ _ _ h]

end Sys2Proof.Machine

namespace Sys2Proof.Machine

/-! ### Tables under their setups -/

/-- An entry of a table written together with its setup. -/
theorem put_both {α β : Type} {n : Nat} {R : β → α → Prop} {us : Vector β n} {v : Vector α n} {u : β} {x : α}
    (k : Fin n) (hv : ∀ j : Fin n, R us[j] v[j]) (hx : R u x) (j : Fin n) : R (put us k u)[j] (put v k x)[j] := by
  rw [put_get, put_get]
  split
  · exact hx
  · exact hv j

/-- An entry of a table written in range under its setup as it stands. -/
theorem put_inRange_under {α β : Type} {n : Nat} {R : β → α → Prop} {us : Vector β n} {v : Vector α n} {x : α}
    (k : Fin n) (hv : ∀ j : Fin n, R us[j] v[j]) (hx : R us[k] x) (j : Fin n) : R us[j] (put v k x)[j] := by
  have both := put_both k hv hx j
  rwa [put_same] at both

/-! ### The tables kept in range -/

/-- From `s` to `t` the setup stands, and under a setup in range the tables stay in range. -/
structure TablesKept (s t : State) : Prop where
  setup  : t.setup = s.setup
  tables : s.setup.InRange → TablesInRange s → TablesInRange t

theorem TablesKept.refl (s : State) : TablesKept s s := ⟨rfl, fun _ h => h⟩

theorem TablesKept.trans {s t u : State} (h : TablesKept s t) (g : TablesKept t u) : TablesKept s u :=
  ⟨g.setup.trans h.setup, fun hu hs => g.tables (h.setup ▸ hu) (h.tables hu hs)⟩

theorem TablesKept.foldl {α : Type} {f : State → α → State} (h : ∀ s x, TablesKept s (f s x)) (xs : List α)
    (s : State) : TablesKept s (xs.foldl f s) := by
  induction xs generalizing s with
  | nil => exact TablesKept.refl s
  | cons x xs ih => exact (h s x).trans (ih _)

/-- The tables are in range where the setup stands and each table is in range or stands. -/
theorem TablesInRange.rebuild {s t : State} (setup : t.setup = s.setup)
    (timers : ∀ k : Fin 4, TimerInRange s.setup.timers[k] t.timers[k])
    (conditions : ∀ c : Fin 32, ConditionInRange s.setup.conditions[c] t.conditions[c])
    (measures : ∀ m : Fin 16, MeasureInRange s.setup.measures[m] t.measures[m])
    (inputs : ∀ i : Fin 2, InputInRange s.setup.filters[i] t.inputs[i]) : TablesInRange t := by
  rw [← setup] at timers conditions measures inputs
  exact ⟨timers, conditions, measures, inputs⟩

/-- The tables are in range where the setup stands and each table but the inputs is made anew in range. -/
theorem TablesInRange.tabulated {s t : State} {f : Fin 4 → TimerState} {g : Fin 32 → ConditionState}
    {v : Fin 16 → MeasureState} (h : TablesInRange s) (setup : t.setup = s.setup) (eTimers : t.timers = tab f)
    (eConditions : t.conditions = tab g) (eMeasures : t.measures = tab v) (eInputs : t.inputs = s.inputs)
    (timers : ∀ k : Fin 4, TimerInRange s.setup.timers[k] (f k))
    (conditions : ∀ c : Fin 32, ConditionInRange s.setup.conditions[c] (g c))
    (measures : ∀ m : Fin 16, MeasureInRange s.setup.measures[m] (v m)) : TablesInRange t := by
  refine .rebuild setup (fun k => ?_) (fun c => ?_) (fun m => ?_) (eInputs ▸ h.inputs)
  · rw [eTimers, tab_get]; exact timers k
  · rw [eConditions, tab_get]; exact conditions c
  · rw [eMeasures, tab_get]; exact measures m

/-- The tables are in range where they and their setups stand. -/
theorem TablesInRange.stands {s t : State} (h : TablesInRange s) (setup : t.setup = s.setup) (timers : t.timers = s.timers)
    (conditions : t.conditions = s.conditions) (measures : t.measures = s.measures) (inputs : t.inputs = s.inputs) :
    TablesInRange t :=
  .rebuild setup (timers ▸ h.timers) (conditions ▸ h.conditions) (measures ▸ h.measures) (inputs ▸ h.inputs)

theorem TablesKept.stands {s t : State} (setup : t.setup = s.setup) (timers : t.timers = s.timers)
    (conditions : t.conditions = s.conditions) (measures : t.measures = s.measures) (inputs : t.inputs = s.inputs) :
    TablesKept s t :=
  ⟨setup, fun _ h => h.stands setup timers conditions measures inputs⟩

theorem OnlyUnits.tablesKept {s t : State} (g : OnlyUnits s t) : TablesKept s t :=
  .stands g.setup g.timers g.conditions g.measures g.inputs

theorem OnlyLink.tablesKept {s t : State} (g : OnlyLink s t) : TablesKept s t :=
  .stands g.setup g.timers g.conditions g.measures g.inputs

theorem OnlyLevels.tablesKept {s t : State} (g : OnlyLevels s t) : TablesKept s t :=
  .stands g.setup g.timers g.conditions g.measures g.inputs

theorem OnlyConditions.tablesKept {s t : State} (g : OnlyConditions s t)
    (conditions : s.setup.InRange → TablesInRange s →
      ∀ c : Fin 32, ConditionInRange s.setup.conditions[c] t.conditions[c]) :
    TablesKept s t :=
  ⟨g.setup, fun hu h => .rebuild g.setup (g.timers ▸ h.timers) (conditions hu h) (g.measures ▸ h.measures)
    (g.inputs ▸ h.inputs)⟩

theorem OnlyTimers.tablesKept {s t : State} (g : OnlyTimers s t)
    (timers : s.setup.InRange → TablesInRange s → ∀ k : Fin 4, TimerInRange s.setup.timers[k] t.timers[k]) :
    TablesKept s t :=
  ⟨g.setup, fun hu h => .rebuild g.setup (timers hu h) (g.conditions ▸ h.conditions) (g.measures ▸ h.measures)
    (g.inputs ▸ h.inputs)⟩

/-- One input written in range. -/
theorem OnlyInputs.tablesKept {s t : State} (g : OnlyInputs s t) {i : Fin 2} {x : InputState}
    (written : t.inputs = put s.inputs i x)
    (inRange : InputInRange s.setup.filters[i] s.inputs[i] → InputInRange s.setup.filters[i] x) : TablesKept s t :=
  ⟨g.setup, fun _ h => .rebuild g.setup (g.timers ▸ h.timers) (g.conditions ▸ h.conditions) (g.measures ▸ h.measures)
    (written ▸ put_inRange_under i h.inputs (inRange (h.inputs i)))⟩

theorem holdPin_tablesKept (i : Fin 2) (periods : Nat) (s : State) : TablesKept s (s.holdPin i periods) :=
  (holdPin_only i periods s).tablesKept (holdPin_inputs i periods s) fun h => heldOn_inRange h.measuring _ _

theorem samplePin_tablesKept (i : Fin 2) (level : Bool) (s : State) : TablesKept s (s.samplePin i level) :=
  (samplePin_only i level s).tablesKept (samplePin_inputs i level s) fun h => sampled_inRange h level

/-- From `s` to `t` the timers stand, or each advances as at a frame boundary (R69). -/
def TimersMoved (s t : State) : Prop :=
  t.timers = s.timers ∨ t.timers = tab fun k => timerAdvance s.setup.timers[k] s.timers[k]

theorem OnlyStream.tablesKept {s t : State} (g : OnlyStream s t) (moved : TimersMoved s t) : TablesKept s t := by
  refine ⟨g.setup, fun hu h => .rebuild g.setup (fun k => ?_) (g.conditions ▸ h.conditions) (g.measures ▸ h.measures)
    (g.inputs ▸ h.inputs)⟩
  rcases moved with e | e
  · rw [e]; exact h.timers k
  · rw [e, tab_get]; exact timerAdvance_inRange (hu.timers k) (h.timers k)

/-! ### The stream and the timers (R69) -/

theorem boundary_timers (s : State) : s.boundary.timers = tab fun k => timerAdvance s.setup.timers[k] s.timers[k] := by
  obtain ⟨_, _, _, _, _, ended, -⟩ := endFrame_ended
    (State.advanceTimers { s with iface := { s.iface with frameNumber := s.iface.frameNumber + 1 } })
  obtain ⟨_, advanced, -⟩ := advanceTimers_eq { s with iface := { s.iface with frameNumber := s.iface.frameNumber + 1 } }
  unfold State.boundary
  rw [State.startFrame_timers, ended, advanced]

theorem syncEdge_timersMoved (s : State) : TimersMoved s s.syncEdge := by
  unfold State.syncEdge
  split
  · exact .inl rfl
  · exact .inl rfl
  · exact .inl (by simp [State.regain])
  · split
    · exact .inl rfl
    · exact .inr (boundary_timers s)

theorem judgeSync_timersMoved (e : SckEdge) (s : State) : TimersMoved s (s.judgeSync e) := by
  unfold State.judgeSync
  dsimp only
  split
  · split
    · exact syncEdge_timersMoved (s.noteFsy (s.fsyLevel e))
    · exact .inl rfl
  · exact .inl rfl

theorem clock_timersMoved (e : SckEdge) (s : State) : TimersMoved s (s.clock e) := by
  have sampled : TimersMoved s (((s.noteSck e).judgeSync e).shiftIn e) := by
    obtain ⟨a, b, shifted⟩ := shiftIn_eq e ((s.noteSck e).judgeSync e)
    rw [shifted]
    exact judgeSync_timersMoved e (s.noteSck e)
  unfold State.clock
  split
  · exact .inl rfl
  all_goals exact sampled

theorem clock_tablesKept (e : SckEdge) (s : State) : TablesKept s (s.clock e) :=
  (clock_only e s).tablesKept (clock_timersMoved e s)

theorem clockAll_tablesKept (edges : List SckEdge) (s : State) : TablesKept s (s.clockAll edges) :=
  TablesKept.foldl (fun a e => clock_tablesKept e a) edges s

theorem quiet_timers (periods : Nat) (s : State) : (s.quiet periods).timers = s.timers := by
  unfold State.quiet
  split
  · rfl
  · split
    · simp [State.loseSync]
    · rfl

theorem quiet_tablesKept (periods : Nat) (s : State) : TablesKept s (s.quiet periods) :=
  (quiet_only periods s).tablesKept (.inl (quiet_timers periods s))

/-! ### The operations on conditions and timers (R55, R72) -/

theorem onCondition_conditions (op : ConditionSetup → ConditionState → ConditionState) (c : Fin 32) (s : State) :
    (s.onCondition op c).conditions = put s.conditions c (op s.setup.conditions[c] s.conditions[c]) := by
  unfold State.onCondition
  dsimp only
  split
  · rw [State.raise_conditions]
  · rfl

theorem onCondition_tablesKept {op : ConditionSetup → ConditionState → ConditionState}
    (hop : ∀ {u c}, u.InRange → ConditionInRange u c → ConditionInRange u (op u c)) (c : Fin 32) (s : State) :
    TablesKept s (s.onCondition op c) :=
  (onCondition_only op c s).tablesKept fun hu h =>
    onCondition_conditions op c s ▸ put_inRange_under c h.conditions (hop (hu.conditions c) (h.conditions c))

theorem onTimer_tablesKept {op : TimerSetup → TimerState → TimerState}
    (hop : ∀ {u t}, u.InRange → TimerInRange u t → TimerInRange u (op u t)) (t : Fin 4) (s : State) :
    TablesKept s (s.onTimer op t) :=
  ⟨rfl, fun hu h =>
    ⟨put_inRange_under t h.timers (hop (hu.timers t) (h.timers t)), h.conditions, h.measures, h.inputs⟩⟩

/-! ### The work of a frame (R16, R27, R49, R96) -/

theorem evaluatedFrame_tablesKept (f : HeldFrame) (s : State) : TablesKept s (s.evaluatedFrame f) := by
  refine ⟨rfl, fun hu h => ⟨h.timers, fun c => ?_, fun m => ?_, h.inputs⟩⟩
  · show ConditionInRange s.setup.conditions[c] (s.conditionsAt f)[c]
    rw [State.conditionsAt, tab_get]
    exact evalCondition_inRange (hu.conditions c) (h.conditions c) _
  · show MeasureInRange s.setup.measures[m] (s.measuresAt f)[m]
    rw [State.measuresAt, tab_get]
    exact updateMeasure_inRange (h.measures m) _

theorem conditionAction_tablesKept (fired : List (Fin 48)) (c : Fin 32) (s : State) :
    TablesKept s (s.conditionAction fired c) := by
  unfold State.conditionAction
  split
  · exact onCondition_tablesKept condDisarm_inRange c s
  · exact onCondition_tablesKept condArm_inRange c s
  · exact onCondition_tablesKept condUnlatch_inRange c s
  · exact TablesKept.refl s

theorem timerAction_tablesKept (fired : List (Fin 48)) (t : Fin 4) (s : State) : TablesKept s (s.timerAction fired t) := by
  unfold State.timerAction
  split
  · exact onTimer_tablesKept timerStop_inRange t s
  · exact onTimer_tablesKept timerStart_inRange t s
  · exact onTimer_tablesKept timerResume_inRange t s
  · exact TablesKept.refl s

theorem workFrame_tablesKept (f : HeldFrame) (during : List StreamEvent) (s : State) :
    TablesKept s (s.workFrame f during) := by
  rw [workFrame_stages]
  have conditioned := (evaluatedFrame_tablesKept f s).trans
    (TablesKept.foldl (fun a c => conditionAction_tablesKept (s.firedAt f) c a) (List.finRange 32) _)
  refine (conditioned.trans (lineActions_only (s.firedAt f) _).tablesKept).trans ?_
  exact interleave_keeps _ _ _ TablesKept.refl (fun _ _ _ => TablesKept.trans) clock_tablesKept quiet_tablesKept
    (fun s => (noticeSent_only s).tablesKept) (timerAction_tablesKept _) (fun b s => (offerEvent_only _ _ s b).tablesKept)
    (fun k s => (unitWork_only _ _ _ s k).tablesKept) _ _ _ _ _

/-! ### Runs and stops (R191, R192) -/

theorem prepareRun_tablesKept (s : State) : TablesKept s s.prepareRun :=
  ⟨rfl, fun hu h => h.tabulated rfl rfl rfl rfl rfl (fun k => runTimer_inRange (hu.timers k) _)
    (fun c => conditionInRange_zero (hu.conditions c) rfl) (fun m => clearedMeasure_inRange (hu.measures m))⟩

theorem armAtRun_only (s : State) (k : Fin 4) : OnlyUnits s (s.armAtRun k) := by
  unfold State.armAtRun
  split
  · exact armUnitBy_only _ _ _ _
  · exact OnlyUnits.refl s

theorem iface_tablesKept (i : FrameInterface) (s : State) : TablesKept s { s with iface := i } :=
  .stands rfl rfl rfl rfl rfl

theorem startRun_tablesKept (s : State) : TablesKept s s.startRun := by
  have armed := (prepareRun_tablesKept s).trans (OnlyUnits.foldl _ armAtRun_only (List.finRange 4) _).tablesKept
  exact armed.trans (iface_tablesKept _ _)

theorem haltBlocks_tablesKept (s : State) : TablesKept s s.haltBlocks :=
  ⟨rfl, fun hu h => h.tabulated rfl rfl rfl rfl rfl (fun k => timerInRange_idle rfl (h.timers k).1)
    (fun c => conditionInRange_zero (hu.conditions c) rfl) (fun m => h.measures m)⟩

theorem stopEngine_tablesKept (s : State) : TablesKept s s.stopEngine :=
  (haltBlocks_tablesKept s).trans (OnlyUnits.foldl _ (fun a k => stopUnit_only k a) _ _).tablesKept

theorem comeUp_tablesKept (cause : ReadyCause) (s : State) : TablesKept s (s.comeUp cause) := by
  unfold State.comeUp
  dsimp only
  split
  · exact (notify_only _ s).tablesKept.trans (startRun_tablesKept _)
  · exact (notify_only _ s).tablesKept
  · exact (notify_only _ s).tablesKept

theorem beginRestart_tablesKept (q : Request) (s : State) : TablesKept s (s.beginRestart q) := by
  have placed : TablesKept s { s with link := s.link.placeReply (replyTo q (okay [])) } :=
    OnlyLink.tablesKept (by constructor <;> rfl)
  have relinked : ∀ t : State, TablesKept t (t.dispatcherTo (.executing .restarting)) :=
    fun t => OnlyLink.tablesKept (by constructor <;> rfl)
  unfold State.beginRestart
  dsimp only
  split
  · exact (placed.trans (stopEngine_tablesKept _)).trans (relinked _)
  · exact placed.trans (relinked _)

/-! ### A setup taken up as a whole (R193) -/

theorem takeUp_timers (u : Setup) (s : State) (k : Fin 4) : (s.takeUp u).timers[k] = { s.timers[k] with count := 0 } := by
  simp [State.takeUp]

/-- R113: the filter times of a setup taken up judge the running hold measurements. -/
theorem takeUp_inputs (u : Setup) (s : State) (i : Fin 2) :
    (s.takeUp u).inputs[i] = s.inputs[i].heldOn u.filters[i] 0 := by
  unfold State.takeUp
  match i with
  | 0 => rw [refilter_other (by decide), refilter_self, State.markLow_inputs, State.markLow_setup]
  | 1 =>
    rw [refilter_self, State.refilter_setup, refilter_other (by decide), State.markLow_inputs, State.markLow_setup]

/-- R193: while STOPPED the blocks take up a setup in range. -/
theorem takeUp_inRange {u : Setup} {s : State} (hu : u.InRange) (he : EngineConsistent s) (hstop : s.engine = .stopped)
    (h : TablesInRange s) : TablesInRange (s.takeUp u) := by
  have setup : (s.takeUp u).setup = u := State.takeUp_setup u s
  refine ⟨fun k => ?_, fun c => ?_, fun m => ?_, fun i => ?_⟩
  · rw [takeUp_timers]
    exact timerInRange_idle (he.timers hstop k) (Nat.zero_le _)
  · have hzero := (conditionInRange_disarmed (he.conditions hstop c)).1 (h.conditions c)
    rw [setup, show (s.takeUp u).conditions = s.conditions by simp [State.takeUp]]
    exact conditionInRange_zero (hu.conditions c) hzero
  · rw [setup, show (s.takeUp u).measures = tab fun _ => clearedMeasure by simp [State.takeUp], tab_get]
    exact clearedMeasure_inRange (hu.measures m)
  · rw [setup, takeUp_inputs]
    exact heldOn_inRange (h.inputs i).measuring _ _

/-- R198 step 4: the counts cleared while every timer is IDLE. -/
theorem clearRuntime_inRange {s : State} (hu : s.setup.InRange) (hidle : ∀ k : Fin 4, s.timers[k].phase = .idle)
    (h : TablesInRange s) : TablesInRange s.clearRuntime :=
  h.tabulated rfl rfl rfl rfl rfl (fun k => timerInRange_idle (hidle k) (Nat.zero_le _)) (fun c => h.conditions c)
    (fun m => clearedMeasure_inRange (hu.measures m))

end Sys2Proof.Machine

namespace Sys2Proof.Machine

/-! ### The rows that leave the setup (R193) -/

theorem link_tablesKept (l : Link) (s : State) : TablesKept s { s with link := l } :=
  .stands rfl rfl rfl rfl rfl

theorem store_tablesKept (st : Store) (s : State) : TablesKept s { s with store := st } :=
  .stands rfl rfl rfl rfl rfl

theorem answer_tablesKept (a : Answer) (s : State) : TablesKept s (s.answer a) :=
  .stands (by simp) (by simp) (by simp) (by simp) (by simp)

theorem serve_tablesKept {act : List Byte → State → State × Answer} {s : State} (kind : Byte)
    (effect : ∀ p, TablesKept s (act p s).1) : TablesKept s (serve kind act s) :=
  serve_keeps kind (fun a t ht => ht.trans (answer_tablesKept a t)) effect (TablesKept.refl s)

/-- A request that reports and leaves the state. -/
theorem serve_report_tablesKept {act : List Byte → State → State × Answer} {s : State} (kind : Byte)
    (report : ∀ p s, (act p s).1 = s) : TablesKept s (serve kind act s) :=
  serve_tablesKept kind fun p => (report p s).symm ▸ TablesKept.refl s

theorem runRequest_tablesKept (p : List Byte) (s : State) : TablesKept s (runRequest p s).1 := by
  rcases runRequest_cases p s with e | ⟨-, -, e⟩ <;> rw [e]
  · exact TablesKept.refl s
  · exact startRun_tablesKept s

theorem stopRequest_tablesKept (p : List Byte) (s : State) : TablesKept s (stopRequest p s).1 := by
  rcases stopRequest_cases p s with e | ⟨-, e⟩ <;> rw [e]
  · exact TablesKept.refl s
  · exact stopEngine_tablesKept s

theorem statusRequest_tablesKept (p : List Byte) (s : State) : TablesKept s (statusRequest p s).1 := by
  rcases statusRequest_cases p s with e | e <;> rw [e]
  · exact TablesKept.refl s
  · exact link_tablesKept _ s

theorem conditionRequest_tablesKept {op : ConditionSetup → ConditionState → ConditionState}
    (hop : ∀ {u c}, u.InRange → ConditionInRange u c → ConditionInRange u (op u c)) (p : List Byte) (s : State) :
    TablesKept s (conditionRequest op p s).1 := by
  rcases conditionRequest_cases op p s with e | ⟨c, -, e⟩ <;> rw [e]
  · exact TablesKept.refl s
  · exact onCondition_tablesKept hop c s

theorem timerRequest_tablesKept {op : TimerSetup → TimerState → TimerState}
    (hop : ∀ {u t}, u.InRange → TimerInRange u t → TimerInRange u (op u t)) (p : List Byte) (s : State) :
    TablesKept s (timerRequest op p s).1 := by
  rcases timerRequest_cases op p s with e | ⟨t, -, e⟩ <;> rw [e]
  · exact TablesKept.refl s
  · exact onTimer_tablesKept hop t s

theorem fire_tablesKept (p : List Byte) (s : State) : TablesKept s (fire p s).1 := by
  rcases fire_cases p s with e | ⟨ns, -, e⟩ <;> rw [e]
  · exact TablesKept.refl s
  · exact (OnlyUnits.foldl _ (fun a n => raise_units (evSoft n) a) ns s).tablesKept

theorem driveLine_tablesKept (p : List Byte) (s : State) : TablesKept s (driveLine p s).1 := by
  rcases driveLine_cases p s with e | ⟨op, o, e⟩ <;> rw [e]
  · exact TablesKept.refl s
  · exact .stands rfl rfl rfl rfl rfl

/-- R144: a request of a unit reaches the units and the store alone. -/
theorem unitRequest_tablesKept {act : Fin 4 → State → State × Answer} {s : State}
    (effect : ∀ k, OnlyUnits s (act k s).1) (p : List Byte) : TablesKept s (unitRequest act p s).1 := by
  rcases unitRequest_cases act p s with e | ⟨k, -, e⟩ <;> rw [e]
  · exact TablesKept.refl s
  · exact (effect k).tablesKept

theorem armRequest_only (k : Fin 4) (s : State) : OnlyUnits s (armRequest k s).1 := by
  rcases armRequest_cases k s with e | ⟨-, e⟩
  · rw [e]; exact OnlyUnits.refl s
  · exact tryArm_some e

theorem triggerRequest_only (k : Fin 4) (s : State) : OnlyUnits s (triggerRequest k s).1 := by
  rcases triggerRequest_cases k s with e | ⟨-, e⟩ <;> rw [e]
  · exact OnlyUnits.refl s
  · exact triggerUnitBy_only _ _ _ _ _

theorem abortRequest_only (k : Fin 4) (s : State) : OnlyUnits s (abortRequest k s).1 := by
  rcases abortRequest_cases k s with e | ⟨-, e⟩ <;> rw [e]
  · exact OnlyUnits.refl s
  · exact abortUnitBy_only _ _

theorem holdCapture_tablesKept (p : List Byte) (s : State) : TablesKept s (holdCapture p s).1 := by
  rcases holdCapture_cases p s with e | ⟨r, -, mark, e⟩ <;> rw [e]
  · exact TablesKept.refl s
  · exact store_tablesKept _ s

theorem releaseCapture_tablesKept (p : List Byte) (s : State) : TablesKept s (releaseCapture p s).1 := by
  rcases releaseCapture_cases p s with e | ⟨r, -, e⟩ <;> rw [e]
  · exact TablesKept.refl s
  · exact (removeRecord_only r s).tablesKept

theorem restart_tablesKept (q : Request) (s : State) :
    TablesKept s (if q.payload ≠ [] then s.answer (refusal .badLength)
      else if s.link.replies.length < Config.replyPlaces then s.beginRestart q else s) := by
  split
  · exact answer_tablesKept _ s
  · split
    · exact beginRestart_tablesKept q s
    · exact TablesKept.refl s

theorem saveSetup_tablesKept (q : Request) (s : State) :
    TablesKept s (if q.payload ≠ [] then s.answer (refusal .badLength) else s.beginSave) := by
  split
  · exact answer_tablesKept _ s
  · exact .stands rfl rfl rfl rfl rfl

theorem endSave_tablesKept (copy : Setup) (verified : Bool) (s : State) : TablesKept s (s.endSave copy verified) := by
  have imaged : ∀ i : SetupImage, TablesKept s { s with image := i } :=
    fun _ => .stands rfl rfl rfl rfl rfl
  unfold State.endSave
  dsimp only
  split
  · exact (imaged _).trans (answer_tablesKept _ _)
  · exact answer_tablesKept _ s

theorem loadSetup_tablesKept (q : Request) (s : State) :
    TablesKept s (if q.payload ≠ [] then s.answer (refusal .badLength)
      else match s.engine with
        | .running => s.answer (refusal .state)
        | .stopped => s.dispatcherTo (.waiting .loading)) := by
  split
  · exact answer_tablesKept _ s
  · split
    · exact answer_tablesKept _ s
    · exact link_tablesKept _ s

/-- A row that is carried out under a condition on the state, and otherwise leaves it. -/
theorem ite_tablesKept {s t : State} {p : Prop} [Decidable p] (h : TablesKept s t) : TablesKept s (if p then t else s) := by
  split
  · exact h
  · exact TablesKept.refl s

/-- R193: every row that does not write the setup keeps the tables in range. -/
theorem exec_tablesKept (c : Instr) {s t : State} (hc : writesSetup c = false) (e : exec c s = .next t) :
    TablesKept s t := by
  cases c
  case messageReceived bytes => exact next_keeps (link_tablesKept _ s) e
  case receiveTimeout periods => exact next_keeps (link_tablesKept _ s) e
  case stopBitError byte =>
    refine next_keeps (P := TablesKept s) ?_ e
    split
    · exact TablesKept.refl s
    · exact link_tablesKept _ s
  case unknownKind =>
    exact next_keeps (P := TablesKept s) (onRequest_keeps (fun _ _ => answer_tablesKept _ s) (TablesKept.refl s)) e
  case replyPlaced =>
    refine next_keeps (P := TablesKept s) ?_ e
    split
    · exact link_tablesKept _ s
    all_goals exact TablesKept.refl s
  case transmitComplete => exact next_keeps (link_tablesKept _ s) e
  case identify => exact next_keeps (serve_report_tablesKept _ identifyRequest_state) e
  case status => exact next_keeps (serve_tablesKept _ fun p => statusRequest_tablesKept p s) e
  case run => exact next_keeps (serve_tablesKept _ fun p => runRequest_tablesKept p s) e
  case stop => exact next_keeps (serve_tablesKept _ fun p => stopRequest_tablesKept p s) e
  case restart =>
    refine next_keeps (P := TablesKept s) (onRequest_keeps (fun q _ => ?_) (TablesKept.refl s)) e
    exact restart_tablesKept q s
  case saveSetup =>
    refine next_keeps (P := TablesKept s) (onRequest_keeps (fun q _ => ?_) (TablesKept.refl s)) e
    exact saveSetup_tablesKept q s
  case saveComplete verified =>
    refine next_keeps (P := TablesKept s) ?_ e
    split
    · exact endSave_tablesKept _ verified s
    all_goals exact TablesKept.refl s
  case loadSetup =>
    refine next_keeps (P := TablesKept s) (onRequest_keeps (fun q _ => ?_) (TablesKept.refl s)) e
    exact loadSetup_tablesKept q s
  case getPort => exact next_keeps (serve_report_tablesKept _ getPort_state) e
  case getMeasure => exact next_keeps (serve_report_tablesKept _ getMeasure_state) e
  case getCondition => exact next_keeps (serve_report_tablesKept _ getCondition_state) e
  case getTimer => exact next_keeps (serve_report_tablesKept _ getTimer_state) e
  case getBinding => exact next_keeps (serve_report_tablesKept _ getBinding_state) e
  case getLines => exact next_keeps (serve_report_tablesKept _ getLines_state) e
  case getUnit => exact next_keeps (serve_report_tablesKept _ getUnit_state) e
  case getStore => exact next_keeps (serve_report_tablesKept _ getStore_state) e
  case listCaptures => exact next_keeps (serve_report_tablesKept _ listCaptures_state) e
  case getCapture => exact next_keeps (serve_report_tablesKept _ getCapture_state) e
  case readFrames => exact next_keeps (serve_report_tablesKept _ readFrames_state) e
  case armCondition => exact next_keeps (serve_tablesKept _ fun p => conditionRequest_tablesKept condArm_inRange p s) e
  case disarmCondition =>
    exact next_keeps (serve_tablesKept _ fun p => conditionRequest_tablesKept condDisarm_inRange p s) e
  case unlatchCondition =>
    exact next_keeps (serve_tablesKept _ fun p => conditionRequest_tablesKept condUnlatch_inRange p s) e
  case startTimer => exact next_keeps (serve_tablesKept _ fun p => timerRequest_tablesKept timerStart_inRange p s) e
  case stopTimer => exact next_keeps (serve_tablesKept _ fun p => timerRequest_tablesKept timerStop_inRange p s) e
  case resumeTimer => exact next_keeps (serve_tablesKept _ fun p => timerRequest_tablesKept timerResume_inRange p s) e
  case fire => exact next_keeps (serve_tablesKept _ fun p => fire_tablesKept p s) e
  case driveLine => exact next_keeps (serve_tablesKept _ fun p => driveLine_tablesKept p s) e
  case armUnit => exact next_keeps (serve_tablesKept _ (unitRequest_tablesKept fun k => armRequest_only k s)) e
  case triggerUnit => exact next_keeps (serve_tablesKept _ (unitRequest_tablesKept fun k => triggerRequest_only k s)) e
  case abortUnit => exact next_keeps (serve_tablesKept _ (unitRequest_tablesKept fun k => abortRequest_only k s)) e
  case holdCapture => exact next_keeps (serve_tablesKept _ fun p => holdCapture_tablesKept p s) e
  case releaseCapture => exact next_keeps (serve_tablesKept _ fun p => releaseCapture_tablesKept p s) e
  case firstSyncEdge edges => exact next_keeps (ite_tablesKept (clockAll_tablesKept edges s)) e
  case frameBoundary edges => exact next_keeps (ite_tablesKept (clockAll_tablesKept edges s)) e
  case timerExpire timer edges => exact next_keeps (ite_tablesKept (clockAll_tablesKept edges s)) e
  case syncLost periods => exact next_keeps (quiet_tablesKept periods s) e
  case syncRegained edges => exact next_keeps (ite_tablesKept (clockAll_tablesKept edges s)) e
  case take during =>
    change execTake during s = .next t at e
    unfold execTake at e
    split at e <;> cases e
    · exact workFrame_tablesKept _ during s
    · exact TablesKept.refl s
    · exact TablesKept.refl s
  case inputAccepted input periods => exact next_keeps (holdPin_tablesKept input periods s) e
  case inputPinChange input level => exact next_keeps (samplePin_tablesKept input level s) e
  all_goals exact nomatch hc

end Sys2Proof.Machine

namespace Sys2Proof.Machine

/-! ### The rows that write the setup (R193) -/

namespace TablesInRange

variable {s : State} (h : TablesInRange s)
include h

theorem answer (a : Answer) : TablesInRange (s.answer a) :=
  h.stands (by simp) (by simp) (by simp) (by simp) (by simp)

/-- A row whose request writes the setup. -/
theorem serve {act : List Byte → State → State × Answer} (kind : Byte) (effect : ∀ p, TablesInRange (act p s).1) :
    TablesInRange (serve kind act s) :=
  serve_keeps kind (fun a _ ht => ht.answer a) effect h

theorem setPort (p : List Byte) : TablesInRange (setPort p s).1 := by
  rcases setPort_cases p s with e | ⟨u, -, -, e, ⟨a, -, rfl⟩ | ⟨b, -, rfl⟩ | ⟨i, -, rfl⟩⟩ <;> rw [e]
  · exact h
  all_goals exact ⟨h.timers, h.conditions, h.measures, h.inputs⟩

theorem setMeasure (p : List Byte) : TablesInRange (setMeasure p s).1 := by
  rcases setMeasure_cases p s with e | ⟨m, u, -, hu, e⟩ <;> rw [e]
  · exact h
  · exact ⟨h.timers, h.conditions, put_both m h.measures (clearedMeasure_inRange hu), h.inputs⟩

theorem setCondition (p : List Byte) : TablesInRange (setCondition p s).1 := by
  rcases setCondition_cases p s with e | ⟨c, u, -, hu, e⟩ <;> rw [e]
  · exact h
  · exact ⟨h.timers, put_both c h.conditions (conditionInRange_zero hu rfl), h.measures, h.inputs⟩

theorem setTimer (p : List Byte) : TablesInRange (setTimer p s).1 := by
  rcases setTimer_cases p s with e | ⟨k, u, hidle, -, e⟩ <;> rw [e]
  · exact h
  · exact ⟨put_both k h.timers (timerInRange_idle hidle (Nat.zero_le _)), h.conditions, h.measures, h.inputs⟩

theorem setBinding (p : List Byte) : TablesInRange (setBinding p s).1 := by
  rcases setBinding_cases p s with e | ⟨b, r, -, e⟩ <;> rw [e]
  · exact h
  · exact ⟨h.timers, h.conditions, h.measures, h.inputs⟩

theorem setUnit (p : List Byte) : TablesInRange (setUnit p s).1 := by
  rcases setUnit_cases p s with e | ⟨k, u, -, -, e⟩ <;> rw [e]
  · exact h
  · exact ⟨h.timers, h.conditions, h.measures, h.inputs⟩

theorem setStore (p : List Byte) : TablesInRange (setStore p s).1 := by
  rcases setStore_cases p s with e | ⟨u, -, e⟩ <;> rw [e]
  · exact h
  · exact ⟨h.timers, h.conditions, h.measures, h.inputs⟩

theorem autorunRequest (p : List Byte) : TablesInRange (autorunRequest p s).1 := by
  rcases autorunRequest_cases p s with e | ⟨b, e⟩ <;> rw [e]
  · exact h
  · exact ⟨h.timers, h.conditions, h.measures, h.inputs⟩

/-- R113: a filter time written: its input is judged under it, the other one stands. -/
theorem writeFilter (i : Fin 2) (f : Nat) :
    TablesInRange (State.refilter i { s with setup := { s.setup with filters := put s.setup.filters i f } }) := by
  have only := refilter_only i { s with setup := { s.setup with filters := put s.setup.filters i f } }
  refine .rebuild only.setup ?_ ?_ ?_ fun j => ?_
  · rw [only.timers]; exact h.timers
  · rw [only.conditions]; exact h.conditions
  · rw [only.measures]; exact h.measures
  · by_cases hj : j = i
    · subst hj
      rw [refilter_self]
      exact heldOn_inRange (h.inputs j).measuring _ _
    · rw [refilter_other hj, put_get_ne _ _ _ _ hj]
      exact h.inputs j

theorem setLine (p : List Byte) : TablesInRange (setLine p s).1 := by
  rcases setLine_cases p s with e | ⟨o, u, e⟩ | ⟨i, f, -, e⟩ <;> rw [e]
  · exact h
  · exact ⟨h.timers, h.conditions, h.measures, h.inputs⟩
  · exact h.writeFilter i f

variable (he : EngineConsistent s) (hs : SetupsInRange s)
include he

theorem defaultRequest (p : List Byte) : TablesInRange (defaultRequest p s).1 := by
  rcases defaultRequest_cases p s with e | ⟨hstop, e⟩ <;> rw [e]
  · exact h
  · exact takeUp_inRange defaultSetup_inRange he hstop h

include hs

theorem endLoad (hd : s.link.dispatcher = .waiting .loading) : TablesInRange s.endLoad := by
  unfold State.endLoad
  split
  · exact (takeUp_inRange (hs.image (by assumption)) he (he.reloading (.inr (.inr hd))) h).answer _
  · exact h.answer _
  · exact h.answer _

theorem startupRead {cause : ResetCause} (hcause : s.startup = some cause) (ready : ReadyCause) :
    TablesInRange (State.comeUp ready { s.takeUp s.image.loaded with startup := none }) := by
  have hstop := he.reloading (.inl (by rw [hcause]; exact nofun))
  have taken := takeUp_inRange hs.loaded he hstop h
  refine (comeUp_tablesKept ready _).tables ?_ ⟨taken.timers, taken.conditions, taken.measures, taken.inputs⟩
  show (s.takeUp s.image.loaded).setup.InRange
  rw [State.takeUp_setup]
  exact hs.loaded

theorem endRestart (hd : s.link.dispatcher = .executing .restarting) : TablesInRange s.endRestart := by
  have hstop := he.reloading (.inr (.inl hd))
  have loaded : (s.takeUp s.image.loaded).setup.InRange := by rw [State.takeUp_setup]; exact hs.loaded
  have idle : ∀ k : Fin 4, (s.takeUp s.image.loaded).timers[k].phase = .idle := by
    intro k
    rw [takeUp_timers]
    exact he.timers hstop k
  have cleared := clearRuntime_inRange loaded idle (takeUp_inRange hs.loaded he hstop h)
  have up := comeUp_tablesKept .restart (s.takeUp s.image.loaded).clearRuntime
  exact (up.trans (link_tablesKept _ _)).tables loaded cleared

end TablesInRange

theorem afterReset_tablesInRange (cause : ResetCause) (pins : ResetPins) (image : SetupImage) (queue : List Instr) :
    TablesInRange (State.afterReset cause pins image queue) where
  timers := reset_tablesInRange.timers
  conditions := reset_tablesInRange.conditions
  measures := reset_tablesInRange.measures
  inputs i := by fin_cases i <;> rfl

/-- Every row that writes the setup keeps the tables in range under the setup it writes. -/
theorem exec_writesSetup_tablesInRange (c : Instr) {s t : State} (hc : writesSetup c = true) (he : EngineConsistent s)
    (hs : SetupsInRange s) (h : TablesInRange s) (e : exec c s = .next t) : TablesInRange t := by
  cases c
  case hardReset cause pins => exact next_keeps (afterReset_tablesInRange cause pins s.image s.pending) e
  case startupSetupRead =>
    refine next_keeps ?_ e
    split
    · exact h.startupRead he hs (by assumption) _
    · exact h
  case restartSetupRead =>
    refine next_keeps ?_ e
    split
    · exact h.endRestart he hs (by assumption)
    · exact h
  case loadComplete =>
    refine next_keeps ?_ e
    split
    · exact h.endLoad he hs (by assumption)
    all_goals exact h
  case defaultSetup => exact next_keeps (h.serve _ (h.defaultRequest he)) e
  case setAutorun => exact next_keeps (h.serve _ h.autorunRequest) e
  case setPort => exact next_keeps (h.serve _ h.setPort) e
  case setMeasure => exact next_keeps (h.serve _ h.setMeasure) e
  case setCondition => exact next_keeps (h.serve _ h.setCondition) e
  case setTimer => exact next_keeps (h.serve _ h.setTimer) e
  case setBinding => exact next_keeps (h.serve _ h.setBinding) e
  case setLine => exact next_keeps (h.serve _ h.setLine) e
  case setUnit => exact next_keeps (h.serve _ h.setUnit) e
  case setStore => exact next_keeps (h.serve _ h.setStore) e
  all_goals exact nomatch hc

/-- Settles O10: a row that leaves the setup keeps each entry in range; one that writes it touches entries at rest. -/
theorem stepKeepsTablesInRange : Obligations.StepKeepsTablesInRange := by
  intro s t he hs h e
  unfold step at e
  split at e
  · cases e; exact h
  · rename_i c rest _
    have he' : EngineConsistent { s with pending := rest } := { he with }
    have hs' : SetupsInRange { s with pending := rest } := ⟨hs.working, hs.image, hs.copy⟩
    have h' : TablesInRange { s with pending := rest } := ⟨h.timers, h.conditions, h.measures, h.inputs⟩
    cases hc : writesSetup c with
    | false => exact (exec_tablesKept c hc e).tables hs'.working h'
    | true => exact exec_writesSetup_tablesInRange c hc he' hs' h' e

end Sys2Proof.Machine

namespace Sys2Proof.Machine

/-! ### One condition (R47, R49 to R52, R56 to R58) -/

/-- Settles O38: the tests by kind, each comparison formed in the integers. -/
theorem conditionTests : Obligations.ConditionTests := by
  intro u v
  refine ⟨fun h => ?_, fun h => ?_, fun h => ?_, fun h => ?_⟩
  all_goals simp [assertTest, releaseTest, h]

theorem satInc_count (c : Count) : satInc c = if c = 65535#16 then 65535#16 else c + 1#16 := by
  by_cases h : c = 65535#16
  · subst h; rfl
  · exact (if_neg h).trans (if_neg h).symm

theorem evalCondition_stale {m : MeasureState} (hm : m.fresh = false) (u : ConditionSetup) (c : ConditionState) :
    evalCondition u m c = c := by
  simp [evalCondition, hm]

theorem evalCondition_disarmed {c : ConditionState} (hc : c.phase = .disarmed) (u : ConditionSetup) (m : MeasureState) :
    evalCondition u m c = c := by
  simp [evalCondition, hc]

theorem evalCondition_latched {u : ConditionSetup} {c : ConditionState} (hc : c.phase = .asserted) (hu : u.latched = true)
    (m : MeasureState) : evalCondition u m c = c := by
  simp [evalCondition, hc, hu]

/-- R50: a WATCHING condition judges a fresh output by its assert test. -/
theorem evalCondition_watching {m : MeasureState} {c : ConditionState} (hm : m.fresh = true) (hc : c.phase = .watching)
    (u : ConditionSetup) :
    evalCondition u m c =
      if assertTest u m.output then
        if c.runCount + 1 = u.qualify then { phase := .asserted, runCount := 0, assertions := satInc c.assertions }
        else { c with runCount := c.runCount + 1 }
      else { c with runCount := 0 } := by
  simp only [evalCondition, hm, hc, if_true]

/-- R51, R52: an ASSERTED condition without a latch judges a fresh output by its release test. -/
theorem evalCondition_asserted {u : ConditionSetup} {m : MeasureState} {c : ConditionState} (hm : m.fresh = true)
    (hc : c.phase = .asserted) (hu : u.latched = false) :
    evalCondition u m c =
      if releaseTest u m.output then
        if c.runCount + 1 = u.release then { c with phase := .watching, runCount := 0 }
        else { c with runCount := c.runCount + 1 }
      else { c with runCount := 0 } := by
  simp [evalCondition, hm, hc, hu]

/-- Settles O39: a condition that is not evaluated stands; a WATCHING and an ASSERTED one go by their test and run count. -/
theorem conditionEvaluation : Obligations.ConditionEvaluation := by
  intro u m c
  refine ⟨?stands, ?asserts, ?counts, ?releases, ?countsRelease, ?clears, ?clearsRelease⟩
  case stands =>
    rintro (hm | hc | ⟨hc, hu⟩)
    · exact evalCondition_stale hm u c
    · exact evalCondition_disarmed hc u m
    · exact evalCondition_latched hc hu m
  case asserts =>
    intro hm hc htest hcount
    rw [evalCondition_watching hm hc, if_pos htest, if_pos hcount, satInc_count]
  case counts =>
    intro hm hc htest hcount
    rw [evalCondition_watching hm hc, if_pos htest, if_neg hcount]
  case releases =>
    intro hm hc hu htest hcount
    rw [evalCondition_asserted hm hc hu, if_pos htest, if_pos hcount]
  case countsRelease =>
    intro hm hc hu htest hcount
    rw [evalCondition_asserted hm hc hu, if_pos htest, if_neg hcount]
  case clears =>
    intro hm hc htest
    rw [evalCondition_watching hm hc, if_neg (by simp [htest])]
  case clearsRelease =>
    intro hm hc hu htest
    rw [evalCondition_asserted hm hc hu, if_neg (by simp [htest])]

/-! ### The operations on a condition (R56 to R59) -/

theorem condArm_eq (u : ConditionSetup) (c : ConditionState) :
    condArm u c = if c.phase = .disarmed then { c with phase := .watching, runCount := 0 } else c := by
  unfold condArm
  split <;> simp [*]

theorem condDisarm_eq (u : ConditionSetup) (c : ConditionState) :
    condDisarm u c = if c.phase = .disarmed then c else { c with phase := .disarmed, runCount := 0 } := by
  unfold condDisarm
  split <;> simp [*]

theorem condUnlatch_eq (u : ConditionSetup) (c : ConditionState) :
    condUnlatch u c =
      if c.phase = .asserted ∧ u.latched = true then { c with phase := .watching, runCount := 0 } else c := by
  unfold condUnlatch
  split <;> simp [*]

/-- R59: while RUNNING an operation writes the condition, and its RELEASE is pending when it left ASSERTED. -/
theorem onCondition_running {s : State} (he : s.engine = .running)
    (op : ConditionSetup → ConditionState → ConditionState) (c : Fin 32) :
    s.onCondition op c =
      { s with
        conditions := put s.conditions c (op s.setup.conditions[c] s.conditions[c])
        events :=
          if s.conditions[c].phase = .asserted ∧ (op s.setup.conditions[c] s.conditions[c]).phase ≠ .asserted then
            insertId (evRelease c) s.events
          else s.events } := by
  unfold State.onCondition
  dsimp only
  split
  · rw [raise_eq, if_pos he]
  · rfl

/-- An operation that has no effect on the condition has none on the state. -/
theorem onCondition_unmoved {s : State} {op : ConditionSetup → ConditionState → ConditionState} {c : Fin 32}
    (h : op s.setup.conditions[c] s.conditions[c] = s.conditions[c]) : s.onCondition op c = s := by
  unfold State.onCondition
  dsimp only
  rw [h, if_neg (fun ⟨asserted, left⟩ => left asserted), put_same]

/-- R60: a request on a condition while RUNNING. -/
theorem conditionRequest_running {s : State} (he : s.engine = .running)
    (op : ConditionSetup → ConditionState → ConditionState) (c : Fin 32) :
    conditionRequest op [BitVec.ofNat 8 c.val] s =
      (s.onCondition op c, okay [codeOf CondPhase.codes (op s.setup.conditions[c] s.conditions[c]).phase]) := by
  simp only [conditionRequest, readIndex_ofNat 32 (by decide), he]
  rw [onCondition_conditions, put_get_self]

/-- Settles O40: each request by whether its operation moves the condition. -/
theorem conditionRequestsAct : Obligations.ConditionRequestsAct := by
  intro s c he
  refine ⟨fun hserves => ?arm, fun hserves => ?disarm, fun hserves => ?unlatch⟩
  case arm =>
    have hexec : exec .armCondition s = .next _ := congrArg Host.Outcome.next (serve_serves (conditionRequest condArm) hserves)
    rw [hexec, conditionRequest_running he]
    dsimp only
    split
    · rename_i hd
      rw [onCondition_running he, condArm_eq, if_pos hd,
        if_neg (by rintro ⟨asserted, -⟩; cases hd.symm.trans asserted)]
      rfl
    · rename_i hd
      rw [onCondition_unmoved (by rw [condArm_eq, if_neg hd]), condArm_eq, if_neg hd]
      cases hp : s.conditions[c].phase with
      | disarmed => exact absurd hp hd
      | watching => rfl
      | asserted => rfl
  case disarm =>
    have hexec : exec .disarmCondition s = .next _ :=
      congrArg Host.Outcome.next (serve_serves (conditionRequest condDisarm) hserves)
    rw [hexec, conditionRequest_running he]
    dsimp only
    split
    · rename_i hd
      rw [onCondition_unmoved (by rw [condDisarm_eq, if_pos hd]), condDisarm_eq, if_pos hd, hd]
      rfl
    · rename_i hd
      rw [onCondition_running he, condDisarm_eq, if_neg hd]
      simp only [ne_eq, reduceCtorEq, not_false_eq_true, and_true]
      rfl
  case unlatch =>
    have hexec : exec .unlatchCondition s = .next _ :=
      congrArg Host.Outcome.next (serve_serves (conditionRequest condUnlatch) hserves)
    rw [hexec, conditionRequest_running he]
    dsimp only
    split
    · rename_i hl
      rw [onCondition_running he, condUnlatch_eq, if_pos hl, if_pos ⟨hl.1, by simp⟩]
      rfl
    · rename_i hl
      rw [onCondition_unmoved (by rw [condUnlatch_eq, if_neg hl]), condUnlatch_eq, if_neg hl]
      cases s.conditions[c].phase <;> rfl

/-! ### The delivered set and the bindings that fire (R53, R87, R93, R94) -/

/-- R93: what a guard asks of the condition states. -/
theorem guardHolds_iff (b : Binding) (cs : Vector ConditionState 32) :
    guardHolds b cs = true ↔
      (b.guardKind = .whenAsserted → cs[b.guardCond].phase = .asserted)
      ∧ (b.guardKind = .whenNotAsserted →
          cs[b.guardCond].phase = .disarmed ∨ cs[b.guardCond].phase = .watching) := by
  unfold guardHolds
  cases b.guardKind with
  | always => simp
  | whenAsserted => simp
  | whenNotAsserted => cases cs[b.guardCond].phase <;> simp

theorem eq_evAssert_iff (id : EventId) (c : Fin 32) : id = evAssert c ↔ id.val = c.val := Fin.ext_iff

theorem eq_evRelease_iff (id : EventId) (c : Fin 32) : id = evRelease c ↔ id.val = 32 + c.val := Fin.ext_iff

/-- R53: the frame-born events are those of the conditions that the evaluation asserted or released. -/
theorem mem_frameBorn (before after : Vector ConditionState 32) (id : EventId) :
    id ∈ frameBorn before after ↔
      (∃ c : Fin 32, id.val = c.val ∧ before[c].phase = .watching ∧ after[c].phase = .asserted)
      ∨ ∃ c : Fin 32, id.val = 32 + c.val ∧ before[c].phase = .asserted ∧ after[c].phase = .watching := by
  simp only [frameBorn, List.mem_append, List.mem_map, List.mem_filter, List.mem_finRange, true_and, decide_eq_true_eq,
    eq_comm (b := id), eq_evAssert_iff, eq_evRelease_iff, and_comm (b := id.val = _)]

/-- Settles O42: a fired binding by its three conditions; the delivered set as the union of two sets. -/
theorem deliveryFiresExactlyTheseBindings : Obligations.DeliveryFiresExactlyTheseBindings := by
  constructor
  · intro bs delivered cs b
    rw [mem_firedBindings, fires, Bool.and_eq_true, Bool.and_eq_true, decide_eq_true_eq, guardHolds_iff, and_assoc]
  · intro s f id
    rw [State.deliveredAt, mem_unionIds, mem_frameBorn, or_comm]

end Sys2Proof.Machine

namespace Sys2Proof.Machine

/-! ### The events of the conditions during the work (R53, R59, R82)

Only the evaluation and the operations on conditions raise ASSERT and RELEASE, the ids below 64. What the timers, the units and the stream raise lies above them. -/

/-- From `s` to `t` no ASSERT and no RELEASE enters or leaves the pending event set. -/
def ConditionEventsStand (s t : State) : Prop := ∀ id : EventId, id.val < 64 → (id ∈ t.events ↔ id ∈ s.events)

namespace ConditionEventsStand

theorem of_events {s t : State} (h : t.events = s.events) : ConditionEventsStand s t := fun id _ => by rw [h]

theorem refl (s : State) : ConditionEventsStand s s := of_events rfl

theorem trans {s t u : State} (h : ConditionEventsStand s t) (g : ConditionEventsStand t u) : ConditionEventsStand s u :=
  fun id hid => (g id hid).trans (h id hid)

theorem of_insert {s t : State} {x : EventId} (hx : 64 ≤ x.val) (h : t.events = insertId x s.events) :
    ConditionEventsStand s t := by
  intro id hid
  have other : id ≠ x := by rintro rfl; omega
  rw [h, mem_insertId, or_iff_right other]

theorem raise {x : EventId} (hx : 64 ≤ x.val) (s : State) : ConditionEventsStand s (s.raise x) := by
  by_cases he : s.engine = .running
  · exact of_insert hx (by rw [State.raise_events, if_pos he])
  · exact of_events (by rw [State.raise_events, if_neg he])

theorem foldl {α : Type} {f : State → α → State} (hf : ∀ s x, ConditionEventsStand s (f s x)) (xs : List α) (s : State) :
    ConditionEventsStand s (xs.foldl f s) := by
  induction xs generalizing s with
  | nil => exact refl s
  | cons x xs ih => exact (hf s x).trans (ih _)

/-! The units raise TRIGGERED, CLOSED and STORE_LOW. -/

theorem claim {k : Nat} {s t : State} {pages : List Page} (h : s.claim k = some (pages, t)) : ConditionEventsStand s t := by
  obtain ⟨-, -, -, -, -, -, same | low⟩ := claim_some h
  · exact of_events same
  · exact of_insert (by decide) low

theorem armUnitBy (k : Fin 4) (cause : ArmCause) (frame : FrameNumber) (s : State) :
    ConditionEventsStand s (s.armUnitBy k cause frame) := by
  unfold State.armUnitBy State.armOrReport State.tryArm
  split
  · cases granted : s.claim (ringPages s.setup.units[k].mask s.setup.units[k].pre) with
    | none => exact refl s
    | some claimed =>
      obtain ⟨pages, t⟩ := claimed
      exact claim (t := t) granted
  all_goals exact refl s

theorem rearm (k : Fin 4) (frame : FrameNumber) (s : State) : ConditionEventsStand s (s.rearm k frame) := by
  unfold State.rearm
  split
  · exact armUnitBy k _ frame s
  · exact refl s

theorem triggerUnitBy (k : Fin 4) (source : Byte) (word : BitVec 32) (frame : Option FrameNumber) (s : State) :
    ConditionEventsStand s (s.triggerUnitBy k source word frame) := by
  unfold State.triggerUnitBy
  have triggered : ∀ t, ConditionEventsStand t (t.raise (evTriggered k)) := raise (Nat.le_add_right_of_le (by decide))
  split
  · exact refl s
  · exact triggered (s.setUnitState k _)
  · exact triggered (s.setUnitState k _)
  · exact refl s

theorem evClosed_above (k : Fin 4) : 64 ≤ (evClosed k).val := Nat.le_add_right_of_le (by decide)

theorem closeCapture (k : Fin 4) (s : State) : ConditionEventsStand s (s.closeCapture k) := by
  by_cases he : s.engine = .running
  · exact of_insert (evClosed_above k) (by rw [closeCapture_events, if_pos he])
  · exact of_events (by rw [closeCapture_events, if_neg he])

theorem discardCapture (k : Fin 4) (s : State) : ConditionEventsStand s (s.discardCapture k) :=
  raise (evClosed_above k) (((s.setUnitState k clearedUnit).giveBack s.units[k].pages).notify _)

theorem abortUnitBy (k : Fin 4) (s : State) : ConditionEventsStand s (s.abortUnitBy k) := by
  unfold State.abortUnitBy
  split
  · exact refl s
  · exact refl s
  · exact refl s
  · exact closeCapture k (s.flagUnit k _)

theorem storeHistory (k : Fin 4) (f : FrameNumber) (s : State) : ConditionEventsStand s (s.storeHistory k f) := by
  unfold State.storeHistory
  dsimp only
  split
  · exact refl s
  · split <;> exact refl s

theorem storePost (k : Fin 4) (f : FrameNumber) (s : State) : ConditionEventsStand s (s.storePost k f) := by
  have stored : ∀ (page : Option Page) (u : UnitState), ConditionEventsStand s
      (State.setUnitState k u
        (match page with
          | some pg => s.writeFrame pg (s.units[k].postCount % framesPerPage s.setup.units[k].mask) s.setup.units[k].mask
          | none => s)) := by
    rintro (_ | _) u <;> exact refl s
  unfold State.storePost
  dsimp only
  split
  · exact ((stored _ _).trans (closeCapture k _)).trans (rearm k f _)
  · exact stored _ _

theorem handlePost (k : Fin 4) (f : FrameNumber) (s : State) : ConditionEventsStand s (s.handlePost k f) := by
  unfold State.handlePost State.pageRefused
  split
  · split
    · rename_i granted
      exact (claim granted).trans (storePost k f (State.setUnitState k _ _))
    · split
      · exact (closeCapture k (s.flagUnit k _)).trans (rearm k f _)
      · exact (discardCapture k s).trans (rearm k f _)
  · exact storePost k f s

theorem handleFrame (k : Fin 4) (f : FrameNumber) (s : State) : ConditionEventsStand s (s.handleFrame k f) := by
  unfold State.handleFrame
  split
  · exact refl s
  · exact storeHistory k f s
  · exact storeHistory k f s
  · exact handlePost k f s

theorem unitWork (fired : List (Fin 48)) (frame : FrameNumber) (word : BitVec 32) (k : Fin 4) (s : State) :
    ConditionEventsStand s (s.unitWork fired frame word k) := by
  have acted : ConditionEventsStand s (s.unitAction fired frame word k) := by
    unfold State.unitAction
    split
    · exact abortUnitBy k s
    · exact triggerUnitBy k _ _ _ s
    · exact armUnitBy k _ _ s
    · exact refl s
  exact acted.trans (handleFrame k frame _)

/-! The stream raises EXPIRE, FRAME_LOST, SYNC_LOST and SYNC_REGAINED. -/

theorem advanceTimers (s : State) : ConditionEventsStand s s.advanceTimers :=
  foldl (fun a k => raise (x := evExpire k) (Nat.le_add_right_of_le (by decide)) a) _ _

theorem endFrame (s : State) : ConditionEventsStand s s.endFrame := by
  unfold State.endFrame
  split
  · exact raise (x := evFrameLost) (by decide) { s with iface := _ }
  · split
    · exact raise (x := evFrameLost) (by decide) { s with iface := _ }
    · exact refl s

theorem boundary (s : State) : ConditionEventsStand s s.boundary :=
  (advanceTimers { s with iface := { s.iface with frameNumber := s.iface.frameNumber + 1 } }).trans (endFrame _)

theorem syncEdge (s : State) : ConditionEventsStand s s.syncEdge := by
  unfold State.syncEdge
  split
  · exact refl s
  · exact refl s
  · exact raise (x := evSyncRegained) (by decide) (State.startFrame { s with iface := _ })
  · split
    · exact refl s
    · exact boundary s

theorem clock (e : SckEdge) (s : State) : ConditionEventsStand s (s.clock e) := by
  have judged : ConditionEventsStand s ((s.noteSck e).judgeSync e) := by
    unfold State.judgeSync
    dsimp only
    split
    · split
      · exact syncEdge ((s.noteSck e).noteFsy _)
      · exact refl s
    · exact refl s
  have sampled : ConditionEventsStand s (((s.noteSck e).judgeSync e).shiftIn e) := by
    obtain ⟨a, b, shifted⟩ := shiftIn_eq e ((s.noteSck e).judgeSync e)
    rw [shifted]
    exact judged
  unfold State.clock
  split
  · exact refl s
  all_goals exact sampled

theorem quiet (periods : Nat) (s : State) : ConditionEventsStand s (s.quiet periods) := by
  unfold State.quiet
  split
  · exact refl s
  · split
    · exact raise (x := evSyncLost) (by decide) { s with iface := _, units := _ }
    · exact refl s

/-- R59, R82: however it is interleaved, the rest of a frame's work raises no ASSERT and no RELEASE. -/
theorem interleave (fired : List (Fin 48)) (frame : FrameNumber) (word : BitVec 32) (during : List StreamEvent)
    (ts : List (Fin 4)) (ns : List (Fin 48)) (us : List (Fin 4)) (s : State) :
    ConditionEventsStand s (State.interleave fired frame word during ts ns us s) :=
  interleave_keeps fired frame word refl (fun _ _ _ => trans) clock quiet (fun s => of_events (noticeSent_only s).events)
    (fun t s => of_events (timerAction_only fired t s).events) (fun b s => of_events (offerEvent_only frame word s b).events)
    (unitWork fired frame word) during ts ns us s

end ConditionEventsStand

end Sys2Proof.Machine

namespace Sys2Proof.Machine

/-! ### One target of a delivery (R95)

A delivery works its targets one after the other, and what one target gets does not depend on the others. -/

theorem foldl_others {α β γ : Type} {act : α → β → α} {view : α → γ} {k : β}
    (others : ∀ a j, j ≠ k → view (act a j) = view a) (ks : List β) (a : α) (hk : k ∉ ks) :
    view (ks.foldl act a) = view a := by
  induction ks generalizing a with
  | nil => rfl
  | cons j js ih =>
    obtain ⟨hj, hjs⟩ := not_or.1 (mt List.mem_cons.2 hk)
    rw [List.foldl_cons, ih _ hjs, others a j (Ne.symm hj)]

/-- What `k` sees of the whole fold is what it sees of its own turn, taken from a state that looks to it like the first. -/
theorem foldl_ownTurn {α β γ : Type} {act : α → β → α} {view : α → γ} {k : β}
    (others : ∀ a j, j ≠ k → view (act a j) = view a) {ks : List β} (nodup : ks.Nodup) (hk : k ∈ ks) (a : α) :
    ∃ b, view b = view a ∧ view (ks.foldl act a) = view (act b k) := by
  obtain ⟨before, after, rfl⟩ := List.append_of_mem hk
  obtain ⟨hafter, hbefore⟩ : k ∉ after ∧ k ∉ before := by
    have apart := List.nodup_middle.1 nodup
    rw [List.nodup_cons, List.mem_append, not_or] at apart
    exact ⟨apart.1.2, apart.1.1⟩
  refine ⟨before.foldl act a, foldl_others others before a hbefore, ?_⟩
  rw [List.foldl_append, List.foldl_cons, foldl_others others after _ hafter]

/-! ### The conditions in a delivery (R55, R59) -/

/-- R55: the operation that the winning action of a delivery is on a condition. -/
def conditionOp (won : Option Action) (u : ConditionSetup) (v : ConditionState) : ConditionState :=
  match won with
  | some .condDisarm => condDisarm u v
  | some .condArm => condArm u v
  | some .condUnlatch => condUnlatch u v
  | _ => v

/-- R55: the action that condition `c` gets of a delivery. -/
def conditionWinner (bs : Vector Binding 48) (fired : List (Fin 48)) (c : Fin 32) : Option Action :=
  winner bs fired [.condDisarm, .condArm, .condUnlatch] c.val

theorem conditionAction_eq (fired : List (Fin 48)) (c : Fin 32) (s : State) :
    s.conditionAction fired c = s.onCondition (conditionOp (conditionWinner s.setup.bindings fired c)) c := by
  unfold State.conditionAction conditionWinner
  generalize winner s.setup.bindings fired [.condDisarm, .condArm, .condUnlatch] c.val = won
  split
  · rfl
  · rfl
  · rfl
  · rw [onCondition_unmoved]
    rw [conditionOp] <;> assumption

theorem evRelease_inj {c d : Fin 32} (h : evRelease c = evRelease d) : c = d := by
  have := (eq_evRelease_iff _ _).1 h
  simp only [evRelease] at this
  omega

/-- R59: a RELEASE of `c` is pending after an operation when it was so before, or when `c` has left ASSERTED by it. -/
theorem evRelease_mem_onCondition (op : ConditionSetup → ConditionState → ConditionState) (c d : Fin 32) (s : State) :
    evRelease c ∈ (s.onCondition op d).events ↔
      evRelease c ∈ s.events
        ∨ c = d ∧ s.engine = .running ∧ s.conditions[d].phase = .asserted
            ∧ (op s.setup.conditions[d] s.conditions[d]).phase ≠ .asserted := by
  have same : evRelease c = evRelease d ↔ c = d := ⟨evRelease_inj, congrArg _⟩
  unfold State.onCondition
  dsimp only
  split
  · rename_i left
    rw [State.raise_events]
    split
    · rw [mem_insertId, same]
      tauto
    · tauto
  · tauto

/-- What condition `c` sees of a state: the setup, the engine, its own state, and whether a RELEASE of it is pending. -/
def State.seenBy (c : Fin 32) (s : State) : Setup × EngineState × ConditionState × Prop :=
  (s.setup, s.engine, s.conditions[c], evRelease c ∈ s.events)

theorem conditionAction_seenBy_others (fired : List (Fin 48)) {c d : Fin 32} (h : d ≠ c) (s : State) :
    (s.conditionAction fired d).seenBy c = s.seenBy c := by
  rw [conditionAction_eq]
  simp only [State.seenBy, State.onCondition_setup, State.onCondition_engine, onCondition_conditions,
    put_get_ne _ d c _ h.symm, evRelease_mem_onCondition, h.symm, false_and, or_false]

/-! What the actions of a delivery find: the evaluated state. -/

@[simp] theorem evaluatedFrame_engine (f : HeldFrame) (s : State) : (s.evaluatedFrame f).engine = s.engine := rfl
@[simp] theorem evaluatedFrame_setup (f : HeldFrame) (s : State) : (s.evaluatedFrame f).setup = s.setup := rfl
@[simp] theorem evaluatedFrame_conditions (f : HeldFrame) (s : State) :
    (s.evaluatedFrame f).conditions = s.conditionsAt f :=
  rfl
@[simp] theorem evaluatedFrame_timers (f : HeldFrame) (s : State) : (s.evaluatedFrame f).timers = s.timers := rfl
@[simp] theorem evaluatedFrame_events (f : HeldFrame) (s : State) : (s.evaluatedFrame f).events = [] := rfl
@[simp] theorem evaluatedFrame_actionLevels (f : HeldFrame) (s : State) :
    (s.evaluatedFrame f).actionLevels = s.actionLevels :=
  rfl

/-- The state in which the conditions and the outputs have applied their actions of frame `f`. -/
def State.linedFrame (f : HeldFrame) (s : State) : State :=
  (List.finRange 4).foldl (fun a o => a.lineAction (s.firedAt f) o)
    ((List.finRange 32).foldl (fun a c => a.conditionAction (s.firedAt f) c) (s.evaluatedFrame f))

theorem workFrame_lined (f : HeldFrame) (during : List StreamEvent) (s : State) :
    s.workFrame f during =
      State.interleave (s.firedAt f) f.number (conditionWord (s.conditionsAt f)) during (List.finRange 4)
        (notifying s.setup.bindings (s.firedAt f)) (List.finRange 4) (s.linedFrame f) := rfl

theorem linedFrame_setup (f : HeldFrame) (s : State) : (s.linedFrame f).setup = s.setup :=
  (lineActions_only _ _).setup.trans (conditionActions_only _ _).setup

theorem linedFrame_timers (f : HeldFrame) (s : State) : (s.linedFrame f).timers = s.timers :=
  (lineActions_only _ _).timers.trans (conditionActions_only _ _).timers

theorem onCondition_seenBy (op : ConditionSetup → ConditionState → ConditionState) (c : Fin 32) {s t : State}
    (h : t.seenBy c = s.seenBy c) : (t.onCondition op c).seenBy c = (s.onCondition op c).seenBy c := by
  simp only [State.seenBy, Prod.mk.injEq] at h
  obtain ⟨hsetup, hengine, hcondition, hrelease⟩ := h
  simp only [State.seenBy, State.onCondition_setup, State.onCondition_engine, onCondition_conditions, put_get_self,
    evRelease_mem_onCondition, hsetup, hengine, hcondition, hrelease]

/-- R55: of the actions on the conditions, condition `c` sees its own. -/
theorem conditionActions_seenBy (fired : List (Fin 48)) (c : Fin 32) (s : State) :
    ((List.finRange 32).foldl (fun a d => a.conditionAction fired d) s).seenBy c =
      (s.onCondition (conditionOp (conditionWinner s.setup.bindings fired c)) c).seenBy c := by
  obtain ⟨t, before, own⟩ := foldl_ownTurn (view := State.seenBy c) (act := fun a d => a.conditionAction fired d)
    (fun a d h => conditionAction_seenBy_others fired h a) (List.nodup_finRange 32) (List.mem_finRange c) s
  have hsetup : t.setup = s.setup := congrArg Prod.fst before
  rw [own, conditionAction_eq, hsetup]
  exact onCondition_seenBy _ c before

/-- R55, R59: a condition after the work of a frame, and whether a RELEASE of it is pending. -/
theorem workFrame_condition {s : State} (he : s.engine = .running) (f : HeldFrame) (during : List StreamEvent) (c : Fin 32)
    {w : ConditionState}
    (hw : conditionOp (conditionWinner s.setup.bindings (s.firedAt f) c) s.setup.conditions[c] (s.conditionsAt f)[c] = w) :
    (s.workFrame f during).conditions[c] = w
      ∧ (evRelease c ∈ (s.workFrame f during).events ↔ (s.conditionsAt f)[c].phase = .asserted ∧ w.phase ≠ .asserted) := by
  subst hw
  have seen := conditionActions_seenBy (s.firedAt f) c (s.evaluatedFrame f)
  simp only [State.seenBy, Prod.mk.injEq, onCondition_conditions, put_get_self, evRelease_mem_onCondition,
    evaluatedFrame_setup, evaluatedFrame_engine, evaluatedFrame_conditions, evaluatedFrame_events, List.not_mem_nil,
    false_or, true_and, he] at seen
  obtain ⟨-, -, hcondition, hrelease⟩ := seen
  rw [workFrame_lined]
  constructor
  · rw [(interleave_only _ _ _ _ _ _ _ _).conditions, State.linedFrame, (lineActions_only _ _).conditions, hcondition]
  · have low : (evRelease c).val < 64 := by simp only [evRelease]; omega
    rw [ConditionEventsStand.interleave _ _ _ _ _ _ _ _ _ low, State.linedFrame, (lineActions_only _ _).events, hrelease]

/-! ### The outputs in a delivery (R108, R109) -/

/-- R108: the action level that the winning action of a delivery leaves. -/
def levelAfter (won : Option Action) (level : Bool) : Bool :=
  match won with
  | some .lineSet => true
  | some .lineClear => false
  | some .lineToggle => !level
  | _ => level

/-- R109: the action that output `o` gets of a delivery. -/
def lineWinner (bs : Vector Binding 48) (fired : List (Fin 48)) (o : Fin 4) : Option Action :=
  winner bs fired [.lineSet, .lineClear, .lineToggle] o.val

theorem lineAction_eq (fired : List (Fin 48)) (o : Fin 4) (s : State) :
    s.lineAction fired o =
      { s with
        actionLevels := put s.actionLevels o (levelAfter (lineWinner s.setup.bindings fired o) s.actionLevels[o]) } := by
  unfold State.lineAction lineWinner
  generalize winner s.setup.bindings fired [.lineSet, .lineClear, .lineToggle] o.val = won
  split
  · rfl
  · rfl
  · rfl
  · rw [levelAfter, put_same] <;> assumption

/-- R109: of the actions on the outputs, output `o` sees its own. -/
theorem lineActions_level (fired : List (Fin 48)) (o : Fin 4) (s : State) :
    ((List.finRange 4).foldl (fun a p => a.lineAction fired p) s).actionLevels[o] =
      levelAfter (lineWinner s.setup.bindings fired o) s.actionLevels[o] := by
  obtain ⟨t, before, own⟩ := foldl_ownTurn (view := fun a : State => (a.setup, a.actionLevels[o]))
    (act := fun (a : State) p => a.lineAction fired p)
    (fun a p h => by simp only [lineAction_eq, put_get_ne _ p o _ h.symm])
    (List.nodup_finRange 4) (List.mem_finRange o) s
  obtain ⟨hsetup, hlevel⟩ := Prod.mk.inj before
  obtain ⟨-, own⟩ := Prod.mk.inj own
  rw [own, lineAction_eq]
  dsimp only
  rw [put_get_self, hsetup, hlevel]

theorem workFrame_level (f : HeldFrame) (during : List StreamEvent) (o : Fin 4) (s : State) :
    (s.workFrame f during).actionLevels[o] =
      levelAfter (lineWinner s.setup.bindings (s.firedAt f) o) s.actionLevels[o] := by
  have conditioned := conditionActions_only (s.firedAt f) (s.evaluatedFrame f)
  rw [workFrame_lined, (interleave_only _ _ _ _ _ _ _ _).actionLevels, State.linedFrame, lineActions_level,
    conditioned.setup, conditioned.actionLevels, evaluatedFrame_setup, evaluatedFrame_actionLevels]

/-! ### The timers in a delivery (R72, R73) -/

/-- R73: the operation that the winning action of a delivery is on a timer. -/
def timerOp (won : Option Action) (u : TimerSetup) (v : TimerState) : TimerState :=
  match won with
  | some .timerStop => timerStop u v
  | some .timerStart => timerStart u v
  | some .timerResume => timerResume u v
  | _ => v

/-- R73: the action that timer `k` gets of a delivery. -/
def timerWinner (bs : Vector Binding 48) (fired : List (Fin 48)) (k : Fin 4) : Option Action :=
  winner bs fired [.timerStop, .timerStart, .timerResume] k.val

theorem timerAction_eq (fired : List (Fin 48)) (k : Fin 4) (s : State) :
    s.timerAction fired k = s.onTimer (timerOp (timerWinner s.setup.bindings fired k)) k := by
  unfold State.timerAction timerWinner
  generalize winner s.setup.bindings fired [.timerStop, .timerStart, .timerResume] k.val = won
  split
  · rfl
  · rfl
  · rfl
  · rw [State.onTimer, timerOp, put_same] <;> assumption

/-- R73: of the actions on the timers, timer `k` sees its own. -/
theorem timerActions_timer (fired : List (Fin 48)) (k : Fin 4) (s : State) :
    ((List.finRange 4).foldl (fun a j => a.timerAction fired j) s).timers[k] =
      timerOp (timerWinner s.setup.bindings fired k) s.setup.timers[k] s.timers[k] := by
  obtain ⟨t, before, own⟩ := foldl_ownTurn (view := fun a : State => (a.setup, a.timers[k]))
    (act := fun (a : State) j => a.timerAction fired j)
    (fun a j h => by simp only [timerAction_eq, State.onTimer, put_get_ne _ j k _ h.symm])
    (List.nodup_finRange 4) (List.mem_finRange k) s
  obtain ⟨hsetup, htimer⟩ := Prod.mk.inj before
  obtain ⟨-, own⟩ := Prod.mk.inj own
  rw [own, timerAction_eq, State.onTimer]
  dsimp only
  rw [put_get_self, hsetup, htimer]

theorem workFrame_nil_timer (f : HeldFrame) (k : Fin 4) (s : State) :
    (s.workFrame f []).timers[k] =
      timerOp (timerWinner s.setup.bindings (s.firedAt f) k) s.setup.timers[k] s.timers[k] := by
  rw [workFrame_lined, interleave_nil, (unitWorks_only _ _ _ _ _).timers,
    (OnlyLink.foldl _ (fun a b => offerEvent_only _ _ a b) _ _).timers, timerActions_timer, linedFrame_setup,
    linedFrame_timers]

theorem timerStop_eq (u : TimerSetup) (t : TimerState) :
    timerStop u t = if t.phase = .running then { t with phase := .held } else t := by
  unfold timerStop
  split <;> simp [*]

theorem timerResume_eq (u : TimerSetup) (t : TimerState) :
    timerResume u t = if t.phase = .held then { t with phase := .running } else t := by
  unfold timerResume
  split <;> simp [*]

/-- R57, R58: a condition leaves ASSERTED by a DISARM, and by an UNLATCH of a latched one. -/
theorem conditionOp_leaves_iff {v : ConditionState} (hv : v.phase = .asserted) (won : Option Action) (u : ConditionSetup) :
    (conditionOp won u v).phase ≠ .asserted ↔
      won = some .condDisarm ∨ won = some .condUnlatch ∧ u.latched = true := by
  unfold conditionOp
  split
  · simp [condDisarm_eq, hv]
  · simp [condArm_eq, hv]
  · by_cases hl : u.latched = true <;> simp [condUnlatch_eq, hv, hl]
  · rename_i disarm arm unlatch
    exact ⟨fun left => absurd hv left, fun | .inl won => (disarm won).elim | .inr ⟨won, _⟩ => (unlatch won).elim⟩

/-- Settles O44: each target by the action that wins at it. -/
theorem takeAppliesTheWinningActions : Obligations.TakeAppliesTheWinningActions := by
  refine ⟨?conditions, ?outputs, ?timers⟩
  case conditions =>
    intro s f during he hh
    refine ⟨s.workFrame f during, execTake_held during s f he hh, ?_⟩
    intro c v hv
    obtain ⟨hcondition, hrelease⟩ := workFrame_condition he f during c rfl
    rw [hcondition, hrelease, ← hv]
    unfold conditionWinner
    refine ⟨fun hd => ?_, fun hd ha => ?_, fun hd ha hu => ?_, fun hd ha hu => ?_, and_congr_right fun hv => ?_⟩
    · rw [winner_first _ _ _ _ _ _ hd]
      exact condDisarm_eq s.setup.conditions[c] v
    · rw [winner_second _ _ _ _ _ _ hd ha]
      exact condArm_eq s.setup.conditions[c] v
    · rw [winner_third _ _ _ _ _ _ hd ha hu]
      exact condUnlatch_eq s.setup.conditions[c] v
    · rw [winner_none _ _ _ _ _ _ hd ha hu]
      rfl
    · rw [conditionOp_leaves_iff hv]
      by_cases hd : Reaches s (s.firedAt f) .condDisarm c.val
      · simp [winner_first _ _ _ _ _ _ hd, hd]
      by_cases ha : Reaches s (s.firedAt f) .condArm c.val
      · simp [winner_second _ _ _ _ _ _ hd ha, hd, ha]
      by_cases hu : Reaches s (s.firedAt f) .condUnlatch c.val
      · simp [winner_third _ _ _ _ _ _ hd ha hu, hd, ha, hu]
      · simp [winner_none _ _ _ _ _ _ hd ha hu, hd, hu]
  case outputs =>
    intro s f during he hh
    refine ⟨s.workFrame f during, execTake_held during s f he hh, fun o => ?_⟩
    rw [workFrame_level, lineWinner]
    refine ⟨fun hs => ?_, fun hs hc => ?_, fun hs hc ht => ?_, fun hs hc ht => ?_⟩
    · rw [winner_first _ _ _ _ _ _ hs]; rfl
    · rw [winner_second _ _ _ _ _ _ hs hc]; rfl
    · rw [winner_third _ _ _ _ _ _ hs hc ht]; rfl
    · rw [winner_none _ _ _ _ _ _ hs hc ht]; rfl
  case timers =>
    intro s f he hh
    refine ⟨s.workFrame f [], execTake_held [] s f he hh, fun k => ?_⟩
    rw [workFrame_nil_timer, timerWinner]
    refine ⟨fun hs => ?_, fun hs hb => ?_, fun hs hb hr => ?_, fun hs hb hr => ?_⟩
    · rw [winner_first _ _ _ _ _ _ hs]
      exact timerStop_eq s.setup.timers[k] s.timers[k]
    · rw [winner_second _ _ _ _ _ _ hs hb]
      rfl
    · rw [winner_third _ _ _ _ _ _ hs hb hr]
      exact timerResume_eq s.setup.timers[k] s.timers[k]
    · rw [winner_none _ _ _ _ _ _ hs hb hr]
      rfl

end Sys2Proof.Machine

namespace Sys2Proof.Machine

/-! ### A timer from its start to its expiry (R67, R70, R71) -/

/-- R70, R72: the count of a timer `n` boundaries into its period. -/
def TimerSetup.countAfter (u : TimerSetup) (n : Nat) : Nat :=
  match u.direction with
  | .down => u.period - n
  | .up => n

theorem startCount_eq (u : TimerSetup) : u.startCount = u.countAfter 0 := by
  unfold TimerSetup.startCount TimerSetup.countAfter
  cases u.direction <;> rfl

theorem endCount_eq (u : TimerSetup) : u.endCount = u.countAfter u.period := by
  unfold TimerSetup.endCount TimerSetup.countAfter
  cases u.direction with
  | down => exact (Nat.sub_self _).symm
  | up => rfl

/-- R70: the next boundary is one boundary further into the period. -/
theorem timerMoved_countAfter {u : TimerSetup} {t : TimerState} {n : Nat} (h : t.count = u.countAfter n) :
    timerMoved u t = u.countAfter (n + 1) := by
  unfold timerMoved
  rw [h]
  unfold TimerSetup.countAfter
  cases u.direction with
  | down => exact Nat.sub_sub _ _ _
  | up => rfl

/-- R70: within a period the end is reached at its last boundary only. -/
theorem countAfter_eq_endCount_iff {u : TimerSetup} {n : Nat} (h : n ≤ u.period) :
    u.countAfter n = u.endCount ↔ n = u.period := by
  rw [endCount_eq]
  unfold TimerSetup.countAfter
  cases u.direction with
  | down => dsimp only; omega
  | up => rfl

theorem timerDue_running {u : TimerSetup} {t : TimerState} (h : t.phase = .running) :
    timerDue u t = true ↔ timerMoved u t = u.endCount := by
  unfold timerDue
  rw [h]
  exact decide_eq_true_iff

theorem timerDue_false_of_not_running {u : TimerSetup} {t : TimerState} (h : t.phase ≠ .running) :
    timerDue u t = false := by
  unfold timerDue
  split
  · exact absurd (by assumption) h
  · rfl
  · rfl

/-- R70: a RUNNING timer short of its expiry moves by one. -/
theorem timerAdvance_not_due {u : TimerSetup} {t : TimerState} (hp : t.phase = .running) (h : timerDue u t ≠ true) :
    timerAdvance u t = { t with count := timerMoved u t } := by
  unfold timerAdvance
  rw [hp]
  exact if_neg (mt (timerDue_running hp).2 h)

/-- R70, R71: the expiry is counted; a REPEAT timer begins its next period, a ONE_SHOT timer goes to IDLE at its end. -/
theorem timerAdvance_due {u : TimerSetup} {t : TimerState} (h : timerDue u t = true) :
    timerAdvance u t =
      match u.mode with
      | .repeating => { t with count := u.startCount, expiries := satInc t.expiries }
      | .oneShot => { t with phase := .idle, count := u.endCount, expiries := satInc t.expiries } := by
  have hp : t.phase = .running := by
    by_contra hp
    rw [timerDue_false_of_not_running hp] at h
    cases h
  unfold timerAdvance
  rw [hp]
  exact if_pos ((timerDue_running hp).1 h)

/-- R70: a timer RUNNING `n` boundaries into its period expires at the next one exactly when that ends the period. -/
theorem timerDue_countAfter_iff {u : TimerSetup} {t : TimerState} {n : Nat} (hp : t.phase = .running)
    (hc : t.count = u.countAfter n) (hn : n < u.period) : timerDue u t = true ↔ n + 1 = u.period := by
  rw [timerDue_running hp, timerMoved_countAfter hc, countAfter_eq_endCount_iff hn]

/-- R67, R70: the boundaries after a start, short of the last of its period, each move the count by one and nothing else. -/
theorem timerAdvance_iterate_timerStart (u : TimerSetup) (t : TimerState) {n : Nat} (hn : n < u.period) :
    (timerAdvance u)^[n] (timerStart u t) = { t with phase := .running, count := u.countAfter n } := by
  induction n with
  | zero => rw [← startCount_eq]; rfl
  | succ n ih =>
    have short : timerDue u { t with phase := .running, count := u.countAfter n } ≠ true := by
      rw [Ne, timerDue_countAfter_iff rfl rfl (by omega)]
      omega
    rw [Function.iterate_succ_apply', ih (by omega), timerAdvance_not_due rfl short, timerMoved_countAfter rfl]

/-- R70: a RUNNING timer whose count stands one short of its end, 1 counting down and P - 1 counting up, is due. -/
theorem timerDue_of_last {u : TimerSetup} {t : TimerState} (hp : t.phase = .running)
    (hc : match u.direction with
      | .down => t.count = 1
      | .up => t.count + 1 = u.period) : timerDue u t = true := by
  rw [timerDue_running hp]
  unfold timerMoved TimerSetup.endCount
  cases hd : u.direction with
  | down => rw [hd] at hc; exact Nat.sub_eq_zero_of_le hc.le
  | up => rw [hd] at hc; exact hc

/-- R70, log 6: the expiry of a timer is the boundary at which it is due. -/
theorem exec_timerExpire_due {s : State} {k : Fin 4} (edges : List SckEdge)
    (h : timerDue s.setup.timers[k] s.timers[k] = true) :
    exec (.timerExpire k edges) s = exec (.frameBoundary edges) s := by
  show Host.Outcome.next (if s.iface.state = .receiving ∧ timerDue s.setup.timers[k] s.timers[k] = true
      then s.clockAll edges else s) = .next (if s.iface.state = .receiving then s.clockAll edges else s)
  rw [h]
  simp only [and_true]

/-- Settles O32: a due timer's command is a boundary that has passed; a started timer is due by how far it is into its period. -/
theorem timersExpireAfterTheirPeriod : Obligations.TimersExpireAfterTheirPeriod := by
  constructor
  · intro s e k hsync hrun hphase hlast
    have due := timerDue_of_last hphase hlast
    have passed := boundaryPassed_of_ended hsync (endFrame_ended (s.atBoundary e))
    refine ⟨_, (exec_timerExpire_due [e] due).trans (exec_frameBoundary_sync hsync), passed,
      passed.expiries hrun k due, ?_⟩
    rw [passed.timers k, timerAdvance_due due]
    unfold TimerSetup.startCount TimerSetup.endCount
    cases s.setup.timers[k].mode with
    | repeating => cases s.setup.timers[k].direction <;> exact ⟨rfl, hphase, rfl⟩
    | oneShot => cases s.setup.timers[k].direction <;> exact ⟨rfl, rfl, rfl⟩
  · intro u t n hn
    rw [timerAdvance_iterate_timerStart u t hn]
    exact timerDue_countAfter_iff rfl rfl hn

/-! ### The requests to a timer (R72, R75) -/

/-- R75: a request on a timer while RUNNING, its reply from the timer as the operation left it. -/
theorem timerRequest_running {s : State} (he : s.engine = .running) (op : TimerSetup → TimerState → TimerState)
    (k : Fin 4) :
    timerRequest op [BitVec.ofNat 8 k.val] s =
      (s.onTimer op k, okay (timerReport (op s.setup.timers[k] s.timers[k]))) := by
  simp only [timerRequest, readIndex_ofNat 4 (by decide), he]
  rw [State.onTimer, put_get_self]

/-- An operation that has no effect on the timer has none on the state. -/
theorem onTimer_unmoved {s : State} {op : TimerSetup → TimerState → TimerState} {k : Fin 4}
    (h : op s.setup.timers[k] s.timers[k] = s.timers[k]) : s.onTimer op k = s := by
  rw [State.onTimer, h, put_same]

theorem serve_timerRequest {s : State} {kind : Byte} {k : Fin 4} (he : s.engine = .running)
    (h : Serves s kind [BitVec.ofNat 8 k.val]) (op : TimerSetup → TimerState → TimerState) :
    serve kind (timerRequest op) s =
      (s.onTimer op k).answer (okay (timerReport (op s.setup.timers[k] s.timers[k]))) := by
  rw [serve_serves _ h, timerRequest_running he]

/-- Settles O41: each request by whether its operation moves the timer. -/
theorem timerRequestsAct : Obligations.TimerRequestsAct := by
  intro s k he
  refine ⟨fun hserves => ?start, fun hserves => ?stop, fun hserves => ?resume⟩
  case start =>
    rintro full rfl
    exact congrArg Host.Outcome.next (serve_timerRequest he hserves timerStart)
  case stop =>
    refine congrArg Host.Outcome.next ((serve_timerRequest he hserves timerStop).trans ?_)
    split
    · rename_i hp
      rw [State.onTimer, timerStop_eq, if_pos hp]
      rfl
    · rename_i hp
      rw [onTimer_unmoved (by rw [timerStop_eq, if_neg hp]), timerStop_eq, if_neg hp, timerReport]
      cases hq : s.timers[k].phase with
      | running => exact absurd hq hp
      | idle => rfl
      | held => rfl
  case resume =>
    refine congrArg Host.Outcome.next ((serve_timerRequest he hserves timerResume).trans ?_)
    split
    · rename_i hp
      rw [State.onTimer, timerResume_eq, if_pos hp]
      rfl
    · rename_i hp
      rw [onTimer_unmoved (by rw [timerResume_eq, if_neg hp]), timerResume_eq, if_neg hp, timerReport]
      cases hq : s.timers[k].phase with
      | held => exact absurd hq hp
      | idle => rfl
      | running => rfl

end Sys2Proof.Machine

namespace Sys2Proof.Machine

/-! ### SET_BINDING and FIRE (R100, R102) -/

theorem setBinding_inRange {r : Binding} (h : r.InRange) (b : Fin 48) (s : State) :
    setBinding (BitVec.ofNat 8 b.val :: r.bytes) s =
      ({ s with setup := { s.setup with bindings := put s.setup.bindings b r } }, okay []) := by
  have hread : readBinding r.bytes = some r := (readBinding_iff _ _).2 ⟨h, rfl⟩
  have hlen : r.bytes.length = 6 := rfl
  simp [setBinding, readIndex_ofNat 48 (by decide), hlen, hread]

theorem fire_stopped {s : State} (he : s.engine = .stopped) (set : Byte) : fire [set] s = (s, refusal .state) := by
  simp only [fire, he]

theorem fire_running {s : State} (he : s.engine = .running) (set : Byte) :
    fire [set] s =
      if 15 < set.toNat then (s, refusal .badValue)
      else ((softEvents set).foldl (fun a n => a.raise (evSoft n)) s, okay [set]) := by
  simp only [fire, he, gt_iff_lt]

theorem mem_softEvents (set : Byte) (n : Fin 4) : n ∈ softEvents set ↔ set.getLsbD n.val = true := by
  simp [softEvents]

theorem eq_evSoft_iff (id : EventId) (n : Fin 4) : id = evSoft n ↔ id.val = 84 + n.val := Fin.ext_iff

/-- Settles O46: SET_BINDING of fields in range writes its record; FIRE by the engine state and the soft set. -/
theorem bindingAndSoftEventRequests : Obligations.BindingAndSoftEventRequests := by
  intro s
  refine ⟨fun b r hr hserves => ?binding, fun set hserves => ⟨fun he => ?stopped, fun he hset => ?outOfRange,
    fun he hset => ?placed⟩⟩
  case binding =>
    refine congrArg Host.Outcome.next ((serve_serves setBinding hserves).trans ?_)
    rw [setBinding_inRange hr]
  case stopped =>
    refine congrArg Host.Outcome.next ((serve_serves fire hserves).trans ?_)
    rw [fire_stopped he]
    rfl
  case outOfRange =>
    refine congrArg Host.Outcome.next ((serve_serves fire hserves).trans ?_)
    rw [fire_running he, if_pos hset]
    rfl
  case placed =>
    obtain ⟨es, raised, hmem⟩ := raiseAll_eq evSoft (softEvents set) s
    refine ⟨{ s with events := es }, congrArg Host.Outcome.next ((serve_serves fire hserves).trans ?_), rfl, fun id => ?_⟩
    · rw [fire_running he, if_neg (Nat.not_lt.2 hset), raised]
    · simp only [hmem, he, true_and, mem_softEvents, eq_evSoft_iff]

/-! ### Notices offered one after the other (R183) -/

@[simp] theorem Link.choose_noticesLost (l : Link) : l.choose.noticesLost = l.noticesLost := by
  unfold Link.choose; split <;> rfl

@[simp] theorem Link.kick_noticesLost (l : Link) : l.kick.noticesLost = l.noticesLost := by
  unfold Link.kick; split <;> simp

theorem Link.offerNotice_noticesLost (n : Notice) (l : Link) :
    (l.offerNotice n).noticesLost = if l.notices.length < 16 then l.noticesLost else satInc l.noticesLost := by
  unfold Link.offerNotice Config.noticePlaces
  split <;> simp

/-- R99, R183: of notices offered in a row the queue takes those it has places for, in order; the rest are lost and counted. -/
theorem Link.offerNotices (ns : List Notice) (l : Link) :
    (ns.foldl (fun m n => m.offerNotice n) l).notices = l.notices ++ ns.take (16 - l.notices.length)
      ∧ (ns.foldl (fun m n => m.offerNotice n) l).noticesLost
          = satInc^[ns.length - (16 - l.notices.length)] l.noticesLost := by
  induction ns generalizing l with
  | nil => simp
  | cons n ns ih =>
    obtain ⟨hnotices, hlost⟩ := ih (l.offerNotice n)
    rw [List.foldl_cons, hnotices, hlost, Link.offerNotice_notices, Link.offerNotice_noticesLost]
    by_cases room : l.notices.length < 16
    · obtain ⟨places, hplaces⟩ : ∃ places, 16 - l.notices.length = places + 1 := ⟨15 - l.notices.length, by omega⟩
      have left : 16 - (l.notices.length + 1) = places := by omega
      simp [room, hplaces, left]
    · have full : 16 - l.notices.length = 0 := by omega
      simp [room, full, Function.iterate_succ_apply]

/-- R98: the EVENT notice that binding `b` of setup `u` offers in run `run`. -/
def eventNotice (u : Setup) (run : RunNumber) (frame : FrameNumber) (word : BitVec 32) (b : Fin 48) : Notice :=
  .event b u.bindings[b].source run frame word

theorem offerEvents_link (frame : FrameNumber) (word : BitVec 32) (bs : List (Fin 48)) (s : State) :
    (bs.foldl (State.offerEvent frame word) s).link =
      (bs.map (eventNotice s.setup s.runNumber frame word)).foldl (fun m n => m.offerNotice n) s.link := by
  induction bs generalizing s with
  | nil => rfl
  | cons b bs ih => rw [List.foldl_cons, ih]; rfl

/-! ### The notices of the units (R123, R138, R156) -/

/-- From `s` to `t` notices join the queue behind those that wait, and none leaves it. -/
def NoticesGrow (s t : State) : Prop := ∃ more, t.link.notices = s.link.notices ++ more

theorem noticesGrow_of_eq {s t : State} (h : t.link.notices = s.link.notices) : NoticesGrow s t :=
  ⟨[], by rw [h, List.append_nil]⟩

theorem noticesGrow_unitClosed : UnitClosed NoticesGrow where
  refl _ := noticesGrow_of_eq rfl
  trans := by
    rintro s t u ⟨ms, hms⟩ ⟨ns, hns⟩
    exact ⟨ms ++ ns, by rw [hns, hms, List.append_assoc]⟩
  raise _ _ := noticesGrow_of_eq (by rw [State.raise_link])
  notify n s := by
    have offered : (s.notify n).link.notices = _ := Link.offerNotice_notices n s.link
    split at offered
    · exact ⟨[n], offered⟩
    · exact noticesGrow_of_eq offered
  setUnit _ _ _ := noticesGrow_of_eq rfl
  store _ _ := noticesGrow_of_eq rfl

/-! ### Units with nothing to do -/

theorem reaches_of_winner {s : State} {fired : List (Fin 48)} {order : List Action} {target : Nat} {a : Action}
    (h : winner s.setup.bindings fired order target = some a) : Reaches s fired a target :=
  (reaches_iff s fired a target).1 (List.find?_some (p := fun b => reaches s.setup.bindings fired b target) h)

/-- R124, R127, R134: of the actions on an IDLE unit only ARM has an effect. -/
theorem unitAction_idle {s : State} {k : Fin 4} (hidle : s.units[k].phase = .idle) {fired : List (Fin 48)}
    (harm : ¬ Reaches s fired .unitArm k.val) (frame : FrameNumber) (word : BitVec 32) :
    s.unitAction fired frame word k = s := by
  unfold State.unitAction
  split
  · simp only [State.abortUnitBy, hidle]
  · simp only [State.triggerUnitBy, hidle]
  · exact absurd (reaches_of_winner (by assumption)) harm
  · rfl

theorem unitWorks_idle {s : State} {fired : List (Fin 48)}
    (h : ∀ k : Fin 4, s.units[k].phase = .idle ∧ ¬ Reaches s fired .unitArm k.val) (frame : FrameNumber)
    (word : BitVec 32) (us : List (Fin 4)) : us.foldl (State.unitWork fired frame word) s = s := by
  refine List.foldl_fixed' (fun k => ?_) us
  obtain ⟨hidle, harm⟩ := h k
  rw [State.unitWork, unitAction_idle hidle harm, handleFrame_idle hidle]

/-! ### The EVENT notices of a take (R98, R99) -/

/-- The state in which the conditions, the outputs and the timers have applied their actions of frame `f`. -/
def State.timedFrame (f : HeldFrame) (s : State) : State :=
  (List.finRange 4).foldl (fun a t => a.timerAction (s.firedAt f) t) (s.linedFrame f)

theorem timedFrame_setup (f : HeldFrame) (s : State) : (s.timedFrame f).setup = s.setup :=
  (timerActions_only _ _ _).setup.trans (linedFrame_setup f s)

theorem timedFrame_runNumber (f : HeldFrame) (s : State) : (s.timedFrame f).runNumber = s.runNumber :=
  (timerActions_only _ _ _).runNumber.trans ((lineActions_only _ _).runNumber.trans (conditionActions_only _ _).runNumber)

theorem timedFrame_link (f : HeldFrame) (s : State) : (s.timedFrame f).link = s.link :=
  (timerActions_only _ _ _).link.trans ((lineActions_only _ _).link.trans (conditionActions_only _ _).link)

theorem timedFrame_units (f : HeldFrame) (s : State) : (s.timedFrame f).units = (s.evaluatedFrame f).units :=
  (timerActions_only _ _ _).units.trans ((lineActions_only _ _).units.trans (conditionActions_only _ _).units)

/-- The state in which the NOTIFY bindings of frame `f` have offered their notices too. -/
def State.notifiedFrame (f : HeldFrame) (s : State) : State :=
  (notifying s.setup.bindings (s.firedAt f)).foldl (State.offerEvent f.number (conditionWord (s.conditionsAt f)))
    (s.timedFrame f)

theorem notifiedFrame_only (f : HeldFrame) (s : State) : OnlyLink (s.timedFrame f) (s.notifiedFrame f) :=
  OnlyLink.foldl _ (fun a b => offerEvent_only _ _ a b) _ _

theorem notifiedFrame_link (f : HeldFrame) (s : State) :
    (s.notifiedFrame f).link =
      ((notifying s.setup.bindings (s.firedAt f)).map
          (eventNotice s.setup s.runNumber f.number (conditionWord (s.conditionsAt f)))).foldl
        (fun m n => m.offerNotice n) s.link := by
  rw [State.notifiedFrame, offerEvents_link, timedFrame_setup, timedFrame_runNumber, timedFrame_link]

theorem notifiedFrame_idle {f : HeldFrame} {s : State} (hidle : ∀ k : Fin 4, s.units[k].phase = .idle) :
    (s.notifiedFrame f).units = s.units := by
  rw [(notifiedFrame_only f s).units, timedFrame_units, evaluatedFrame_units hidle]

theorem workFrame_nil_notified (f : HeldFrame) (s : State) :
    s.workFrame f [] =
      (List.finRange 4).foldl (State.unitWork (s.firedAt f) f.number (conditionWord (s.conditionsAt f)))
        (s.notifiedFrame f) := by
  rw [workFrame_lined, interleave_nil, State.notifiedFrame, State.timedFrame]

/-- With every unit IDLE and none armed, the work of a frame ends with its EVENT notices. -/
theorem workFrame_nil_idle {f : HeldFrame} {s : State}
    (h : ∀ k : Fin 4, s.units[k].phase = .idle ∧ ¬ Reaches s (s.firedAt f) .unitArm k.val) :
    s.workFrame f [] = s.notifiedFrame f := by
  have setup : (s.notifiedFrame f).setup = s.setup := (notifiedFrame_only f s).setup.trans (timedFrame_setup f s)
  rw [workFrame_nil_notified]
  refine unitWorks_idle (fun k => ⟨?_, ?_⟩) _ _ _
  · rw [notifiedFrame_idle fun j => (h j).1]
    exact (h k).1
  · rw [Reaches, setup]
    exact (h k).2

/-- Settles O45: the EVENT notices are offered in a row before the units work, and the units' work only adds notices. -/
theorem notifyBindingsQueueEvents : Obligations.NotifyBindingsQueueEvents := by
  rintro s f events he hh rfl
  obtain ⟨hnotices, hlost⟩ := Link.offerNotices ((notifying s.setup.bindings (s.firedAt f)).map
    (eventNotice s.setup s.runNumber f.number (conditionWord (s.conditionsAt f)))) s.link
  rw [← notifiedFrame_link] at hnotices hlost
  obtain ⟨more, hmore⟩ : NoticesGrow (s.notifiedFrame f) (s.workFrame f []) := by
    rw [workFrame_nil_notified]
    exact noticesGrow_unitClosed.foldl (noticesGrow_unitClosed.unitWork _ _ _) _ _
  refine ⟨firedBindings_rising _ _ _, s.workFrame f [], more, execTake_held [] s f he hh,
    hmore.trans (congrArg (· ++ more) hnotices), fun hunits => ?_⟩
  rw [workFrame_nil_idle hunits] at hmore ⊢
  exact ⟨List.self_eq_append_right.1 hmore, hlost⟩

end Sys2Proof.Machine

namespace Sys2Proof.Machine

/-! ### The id the index assigns (R157) -/

theorem nextFromOne_toNat (c : CaptureId) : (nextFromOne c).toNat = c.toNat % 65535 + 1 := by
  unfold nextFromOne
  split
  · rename_i h; subst h; rfl
  · rename_i h
    have below : c.toNat ≠ 65535 := fun e => h (BitVec.eq_of_toNat_eq e)
    have bound : c.toNat < 65536 := c.isLt
    rw [BitVec.toNat_add, BitVec.toNat_ofNat]
    omega

theorem nextFromOne_ne_zero (c : CaptureId) : nextFromOne c ≠ 0 := by
  intro h
  have := congrArg BitVec.toNat h
  rw [nextFromOne_toNat] at this
  exact absurd this (Nat.succ_ne_zero _)

theorem nextFromOne_iterate_ne_zero {c : CaptureId} (h : c ≠ 0) (n : Nat) : nextFromOne^[n] c ≠ 0 := by
  cases n with
  | zero => exact h
  | succ n => rw [Function.iterate_succ_apply']; exact nextFromOne_ne_zero _

theorem nextFromOne_iterate_toNat {c : CaptureId} (h : c ≠ 0) (n : Nat) :
    (nextFromOne^[n] c).toNat = (c.toNat - 1 + n) % 65535 + 1 := by
  induction n with
  | zero =>
    have pos : c.toNat ≠ 0 := fun e => h (BitVec.eq_of_toNat_eq e)
    have bound : c.toNat < 65536 := c.isLt
    rw [Function.iterate_zero_apply]
    omega
  | succ n ih =>
    rw [Function.iterate_succ_apply', nextFromOne_toNat, ih]
    omega

/-- The values that the search tries are all different: the count comes round after 65535 of them. -/
theorem nextFromOne_iterate_inj {c : CaptureId} (h : c ≠ 0) {i j : Nat} (hi : i < 65535) (hj : j < 65535)
    (e : nextFromOne^[i] c = nextFromOne^[j] c) : i = j := by
  have values := congrArg BitVec.toNat e
  rw [nextFromOne_iterate_toNat h, nextFromOne_iterate_toNat h] at values
  omega

/-- The search stops at the first value that no record has, or has found every value it tried taken. -/
theorem freshId_cases (index : List CaptureRecord) (fuel : Nat) (id : CaptureId) :
    (∃ n < fuel, freshId index fuel id = nextFromOne^[n] id ∧ nextFromOne^[n] id ∉ index.map CaptureRecord.id
        ∧ ∀ j < n, nextFromOne^[j] id ∈ index.map CaptureRecord.id)
      ∨ ∀ j < fuel, nextFromOne^[j] id ∈ index.map CaptureRecord.id := by
  induction fuel generalizing id with
  | zero => exact .inr fun _ h => absurd h (Nat.not_lt_zero _)
  | succ fuel ih =>
    have taken_iff : index.any (fun r => r.id == id) = true ↔ id ∈ index.map CaptureRecord.id := by
      simp
    by_cases taken : id ∈ index.map CaptureRecord.id
    · rw [freshId, if_pos (taken_iff.2 taken)]
      have first : ∀ {n : Nat}, (∀ j < n, nextFromOne^[j] (nextFromOne id) ∈ index.map CaptureRecord.id) →
          ∀ j < n + 1, nextFromOne^[j] id ∈ index.map CaptureRecord.id := by
        intro n h j hj
        cases j with
        | zero => exact taken
        | succ j => exact h j (Nat.lt_of_succ_lt_succ hj)
      rcases ih (nextFromOne id) with ⟨n, hn, found, free, before⟩ | all
      · exact .inl ⟨n + 1, Nat.succ_lt_succ hn, found, free, first before⟩
      · exact .inr (first all)
    · rw [freshId, if_neg (mt taken_iff.1 taken)]
      exact .inl ⟨0, Nat.succ_pos _, rfl, taken, fun _ h => absurd h (Nat.not_lt_zero _)⟩

/-- R157: with at most 32 records one of 33 values is free, so the id assigned is the first value that no record has. -/
theorem assigned_first_free {t : Store} (count : t.index.length ≤ 32) (next : t.nextId ≠ 0) :
    ∃ n ≤ 32, t.assigned = nextFromOne^[n] t.nextId ∧ t.assigned ∉ t.index.map CaptureRecord.id
      ∧ ∀ j < n, nextFromOne^[j] t.nextId ∈ t.index.map CaptureRecord.id := by
  rcases freshId_cases t.index 33 t.nextId with ⟨n, hn, found, free, before⟩ | all
  · exact ⟨n, Nat.le_of_lt_succ hn, found, by rw [show t.assigned = _ from found]; exact free, before⟩
  · have tried : ((List.range 33).map fun j => nextFromOne^[j] t.nextId).Nodup := by
      refine List.Nodup.map_on (fun i hi j hj e => ?_) List.nodup_range
      rw [List.mem_range] at hi hj
      exact nextFromOne_iterate_inj next (by omega) (by omega) e
    have among : ((List.range 33).map fun j => nextFromOne^[j] t.nextId) ⊆ t.index.map CaptureRecord.id := by
      intro x hx
      obtain ⟨j, hj, rfl⟩ := List.mem_map.1 hx
      exact all j (List.mem_range.1 hj)
    have many := (tried.subperm among).length_le
    rw [List.length_map, List.length_map, List.length_range] at many
    omega

/-! ### The index kept consistent (R155, R156) -/

/-- Records taken out of the index, or changed but for their ids, leave it consistent. -/
theorem IndexConsistent.of_sublist {s t : State} (h : IndexConsistent s)
    (ids : List.Sublist (t.store.index.map CaptureRecord.id) (s.store.index.map CaptureRecord.id))
    (next : t.store.nextId = s.store.nextId) : IndexConsistent t where
  count := by
    have shorter := ids.length_le
    rw [List.length_map, List.length_map] at shorter
    exact shorter.trans h.count
  ids := h.ids.sublist ids
  noZero r hr := by
    obtain ⟨x, hx, e⟩ := List.mem_map.1 (ids.subset (List.mem_map_of_mem hr))
    exact e ▸ h.noZero x hx
  next := next ▸ h.next

theorem IndexConsistent.removeRecord {s : State} (h : IndexConsistent s) (r : CaptureRecord) :
    IndexConsistent (s.removeRecord r) :=
  h.of_sublist (List.erase_sublist.map _) rfl

theorem IndexConsistent.appendRecord {s : State} (h : IndexConsistent s) (room : s.store.index.length < 32)
    {r : CaptureRecord} (fresh : r.id ∉ s.store.index.map CaptureRecord.id) (nonzero : r.id ≠ 0) :
    IndexConsistent (s.appendRecord r) where
  count := by
    rw [State.appendRecord, List.length_append]
    exact room
  ids := by
    rw [State.appendRecord, List.map_append, List.map_singleton]
    exact h.ids.append (List.nodup_singleton _) (List.disjoint_singleton.2 fresh)
  noZero x hx := by
    rcases List.mem_append.1 hx with old | new
    · exact h.noZero x old
    · rw [List.mem_singleton.1 new]; exact nonzero
  next := h.next

theorem IndexConsistent.keepOrDrop {s : State} (h : IndexConsistent s) {r : CaptureRecord}
    (fresh : r.id ∉ s.store.index.map CaptureRecord.id) (nonzero : r.id ≠ 0) : IndexConsistent (s.keepOrDrop r).1 := by
  have dropped : IndexConsistent (s.dropCapture r) := h.of_sublist (List.Sublist.refl _) rfl
  unfold State.keepOrDrop
  split
  · exact h.appendRecord (by assumption) fresh nonzero
  · split
    · exact dropped
    · split
      · rename_i old found
        have held : old ∈ s.store.index := List.mem_of_find?_eq_some found
        have removed : IndexConsistent ((s.removeRecord old).notify (.captureDropped .replaced old.id old.unit old.run)) :=
          (h.removeRecord old).of_sublist (List.Sublist.refl _) rfl
        refine removed.appendRecord ?_ ?_ nonzero
        · show (s.store.index.erase old).length < 32
          have some_record := List.length_pos_of_mem held
          have places := h.count
          rw [List.length_erase_of_mem held]
          omega
        · exact fun gone => fresh ((List.erase_sublist.map _).subset gone)
      · exact dropped

/-- R156, R157: a handover keeps the index consistent: the id assigned is free. -/
theorem IndexConsistent.handOver {s : State} (h : IndexConsistent s) (r : CaptureRecord) :
    IndexConsistent (s.handOver r).1 := by
  obtain ⟨n, -, found, free, -⟩ := assigned_first_free h.count h.next
  have counted : IndexConsistent { s with store := { s.store with nextId := nextFromOne s.store.assigned } } :=
    ⟨h.count, h.ids, h.noZero, nextFromOne_ne_zero _⟩
  refine counted.keepOrDrop (r := { r with id := s.store.assigned }) free ?_
  show s.store.assigned ≠ 0
  rw [found]
  exact nextFromOne_iterate_ne_zero h.next n

theorem markHeld_ids (id : CaptureId) (mark : Bool) (index : List CaptureRecord) :
    (markHeld id mark index).map CaptureRecord.id = index.map CaptureRecord.id := by
  rw [markHeld, List.map_map]
  refine List.map_congr_left fun r _ => ?_
  rw [Function.comp_apply]
  split <;> rfl

/-! ### The low-water state kept true (R153) -/

theorem LowWaterTrue.keepOrDrop {s : State} (h : LowWaterTrue s) (r : CaptureRecord) :
    LowWaterTrue (s.keepOrDrop r).1 := by
  unfold State.keepOrDrop
  split
  · exact h
  · split
    · exact rfl
    · split <;> exact rfl

theorem claim_lowWaterTrue {k : Nat} {s t : State} {pages : List Page} (e : s.claim k = some (pages, t)) :
    LowWaterTrue t := by
  obtain ⟨-, -, only, -, -, store, -⟩ := claim_some e
  rw [LowWaterTrue, only.setup, store, List.length_drop]

/-! ### Relations that the units' work keeps through the store's own operations

`UnitClosed` asks that a relation survive any change of the store. Here the store changes only as the units change it: pages claimed and returned, frames written, captures handed over. -/

/-- A relation from the state before to the state after, kept by each operation that the units' work is made of. -/
structure StoreClosed (P : State → State → Prop) : Prop where
  refl       : ∀ s, P s s
  trans      : ∀ {s t u}, P s t → P t u → P s u
  raise      : ∀ id s, P s (s.raise id)
  notify     : ∀ n s, P s (s.notify n)
  setUnit    : ∀ k u s, P s (s.setUnitState k u)
  claim      : ∀ {k s t pages}, s.claim k = some (pages, t) → P s t
  giveBack   : ∀ pages s, P s (s.giveBack pages)
  writeFrame : ∀ pg pos mask s, P s (s.writeFrame pg pos mask)
  handOver   : ∀ r s, P s (s.handOver r).1

namespace StoreClosed

variable {P : State → State → Prop} (h : StoreClosed P)
include h

theorem foldl {α : Type} {f : State → α → State} (hf : ∀ s x, P s (f s x)) (xs : List α) (s : State) :
    P s (xs.foldl f s) := by
  induction xs generalizing s with
  | nil => exact h.refl s
  | cons x xs ih => exact h.trans (hf s x) (ih _)

theorem tryArm {k : Fin 4} {s t : State} (e : s.tryArm k = some t) : P s t := by
  unfold State.tryArm at e
  split at e
  · rename_i granted
    cases e
    exact h.trans (h.claim granted) (h.setUnit _ _ _)
  · cases e

theorem armUnitBy (k : Fin 4) (cause : ArmCause) (frame : FrameNumber) (s : State) :
    P s (s.armUnitBy k cause frame) := by
  unfold State.armUnitBy State.armOrReport
  split
  · split
    · exact h.tryArm (by assumption)
    · exact h.notify _ s
  all_goals exact h.refl s

theorem rearm (k : Fin 4) (frame : FrameNumber) (s : State) : P s (s.rearm k frame) := by
  unfold State.rearm
  split
  · exact h.armUnitBy k _ frame s
  · exact h.refl s

theorem armAtRun (s : State) (k : Fin 4) : P s (s.armAtRun k) := by
  unfold State.armAtRun
  split
  · exact h.armUnitBy k _ _ s
  · exact h.refl s

theorem triggerUnitBy (k : Fin 4) (source : Byte) (word : BitVec 32) (frame : Option FrameNumber) (s : State) :
    P s (s.triggerUnitBy k source word frame) := by
  have entered : ∀ u, P s ((s.setUnitState k u).raise (evTriggered k)) := fun u =>
    h.trans (h.setUnit k u s) (h.raise _ _)
  unfold State.triggerUnitBy
  split
  · exact h.refl s
  · exact entered _
  · exact entered _
  · exact h.setUnit _ _ s

theorem closeCapture (k : Fin 4) (s : State) : P s (s.closeCapture k) := by
  have closed : P s (State.raise (evClosed k) ((s.setUnitState k clearedUnit).handOver (captureRecord k s)).1) :=
    h.trans (h.trans (h.setUnit _ _ s) (h.handOver _ _)) (h.raise _ _)
  unfold State.closeCapture
  dsimp only
  split
  · exact h.trans closed (h.notify _ _)
  · exact closed

theorem flagAndClose (k : Fin 4) (f : CaptureFlags → CaptureFlags) (s : State) :
    P s ((s.flagUnit k f).closeCapture k) := h.trans (h.setUnit _ _ s) (h.closeCapture k _)

theorem discardCapture (k : Fin 4) (s : State) : P s (s.discardCapture k) :=
  h.trans (h.trans (h.trans (h.setUnit _ _ s) (h.giveBack _ _)) (h.notify _ _)) (h.raise _ _)

theorem giveUp (k : Fin 4) (s : State) : P s (s.giveUp k) := h.trans (h.setUnit _ _ s) (h.giveBack _ _)

theorem abortUnitBy (k : Fin 4) (s : State) : P s (s.abortUnitBy k) := by
  unfold State.abortUnitBy
  split
  · exact h.refl s
  · exact h.giveUp k s
  · exact h.giveUp k s
  · exact h.flagAndClose k _ s

theorem stopUnit (k : Fin 4) (s : State) : P s (s.stopUnit k) := by
  unfold State.stopUnit
  split
  · exact h.refl s
  · exact h.giveUp k s
  · exact h.giveUp k s
  · exact h.flagAndClose k _ s

/-- A frame stored in the page that is found, when there is one, and the unit's record written. -/
theorem storeFrame (pg : Option Page) (pos : Nat) (mask : BitVec 16) (k : Fin 4) (u : UnitState) (s : State) :
    P s (State.setUnitState k u (match pg with | some p => s.writeFrame p pos mask | none => s)) := by
  cases pg with
  | none => exact h.setUnit k u s
  | some p => exact h.trans (h.writeFrame p pos mask s) (h.setUnit k u _)

theorem storeHistory (k : Fin 4) (f : FrameNumber) (s : State) : P s (s.storeHistory k f) := by
  unfold State.storeHistory
  dsimp only
  split
  · exact h.refl s
  · exact h.storeFrame _ _ _ k _ s

theorem storePost (k : Fin 4) (f : FrameNumber) (s : State) : P s (s.storePost k f) := by
  unfold State.storePost
  dsimp only
  split
  · exact h.trans (h.trans (h.storeFrame _ _ _ k _ s) (h.closeCapture k _)) (h.rearm k f _)
  · exact h.storeFrame _ _ _ k _ s

theorem handlePost (k : Fin 4) (f : FrameNumber) (s : State) : P s (s.handlePost k f) := by
  unfold State.handlePost State.pageRefused
  split
  · split
    · rename_i granted
      exact h.trans (h.trans (h.claim granted) (h.setUnit _ _ _)) (h.storePost k f _)
    · split
      · exact h.trans (h.flagAndClose k _ s) (h.rearm k f _)
      · exact h.trans (h.discardCapture k s) (h.rearm k f _)
  · exact h.storePost k f s

theorem handleFrame (k : Fin 4) (f : FrameNumber) (s : State) : P s (s.handleFrame k f) := by
  unfold State.handleFrame
  split
  · exact h.refl s
  · exact h.storeHistory k f s
  · exact h.storeHistory k f s
  · exact h.handlePost k f s

theorem unitWork (fired : List (Fin 48)) (frame : FrameNumber) (word : BitVec 32) (s : State) (k : Fin 4) :
    P s (s.unitWork fired frame word k) := by
  have acted : P s (s.unitAction fired frame word k) := by
    unfold State.unitAction
    split
    · exact h.abortUnitBy k s
    · exact h.triggerUnitBy k _ _ _ s
    · exact h.armUnitBy k _ _ s
    · exact h.refl s
  exact h.trans acted (h.handleFrame k frame _)

/-! The requests of the units do what the actions do (R144). -/

theorem armRequest (p : List Byte) (s : State) : P s (unitRequest armRequest p s).1 := by
  rcases unitRequest_cases Machine.armRequest p s with e | ⟨k, -, e⟩ <;> rw [e]
  · exact h.refl s
  · rcases armRequest_cases k s with e | ⟨-, e⟩
    · rw [e]; exact h.refl s
    · exact h.tryArm e

theorem triggerRequest (p : List Byte) (s : State) : P s (unitRequest triggerRequest p s).1 := by
  rcases unitRequest_cases Machine.triggerRequest p s with e | ⟨k, -, e⟩ <;> rw [e]
  · exact h.refl s
  · rcases triggerRequest_cases k s with e | ⟨-, e⟩ <;> rw [e]
    · exact h.refl s
    · exact h.triggerUnitBy k _ _ _ s

theorem abortRequest (p : List Byte) (s : State) : P s (unitRequest abortRequest p s).1 := by
  rcases unitRequest_cases Machine.abortRequest p s with e | ⟨k, -, e⟩ <;> rw [e]
  · exact h.refl s
  · rcases abortRequest_cases k s with e | ⟨-, e⟩ <;> rw [e]
    · exact h.refl s
    · exact h.abortUnitBy k s

end StoreClosed

/-! ### The event set, the low-water state and the index, kept together (R84, R153, R155) -/

/-- From `s` to `t` the event set stays a set, the low-water state true and the index consistent, each on its own. -/
structure StoreAndEventsKept (s t : State) : Prop where
  events : EventsAreASet s → EventsAreASet t
  low    : LowWaterTrue s → LowWaterTrue t
  index  : IndexConsistent s → IndexConsistent t

namespace StoreAndEventsKept

variable {s t u : State}

theorem refl (s : State) : StoreAndEventsKept s s := ⟨id, id, id⟩

theorem trans (h : StoreAndEventsKept s t) (g : StoreAndEventsKept t u) : StoreAndEventsKept s u :=
  ⟨g.events ∘ h.events, g.low ∘ h.low, g.index ∘ h.index⟩

/-- Where the store and its setup stand, what matters is the event set. -/
theorem of_store (events : EventsAreASet s → EventsAreASet t) (store : t.store = s.store)
    (mark : t.setup.store = s.setup.store) : StoreAndEventsKept s t where
  events := events
  low h := by rw [LowWaterTrue, store, mark]; exact h
  index h := h.of_sublist (by rw [store]) (by rw [store])

theorem stands (events : t.events = s.events) (store : t.store = s.store) (mark : t.setup.store = s.setup.store) :
    StoreAndEventsKept s t :=
  of_store (fun h => by rw [EventsAreASet, events]; exact h) store mark

/-- Where the event set is emptied. -/
theorem emptied (events : t.events = []) (store : t.store = s.store) (mark : t.setup.store = s.setup.store) :
    StoreAndEventsKept s t :=
  of_store (fun _ => by rw [EventsAreASet, events]; exact List.Pairwise.nil) store mark

theorem link (l : Link) (s : State) : StoreAndEventsKept s { s with link := l } := stands rfl rfl rfl

theorem iface (i : FrameInterface) (s : State) : StoreAndEventsKept s { s with iface := i } := stands rfl rfl rfl

theorem notify (n : Notice) (s : State) : StoreAndEventsKept s (s.notify n) := link _ s

theorem answer (a : Answer) (s : State) : StoreAndEventsKept s (s.answer a) := stands (by simp) (by simp) (by simp)

theorem raise (id : EventId) (s : State) : StoreAndEventsKept s (s.raise id) :=
  of_store (s.raise_sorted id) (by simp) (by simp)

/-- R153, R154: where the low-water state is set from the free count and the mark. -/
theorem marked (events : t.events = s.events) (index : t.store.index = s.store.index)
    (next : t.store.nextId = s.store.nextId) (low : LowWaterTrue t) : StoreAndEventsKept s t where
  events h := by rw [EventsAreASet, events]; exact h
  low _ := low
  index h := h.of_sublist (by rw [index]) next

theorem claim {k : Nat} {pages : List Page} (e : s.claim k = some (pages, t)) : StoreAndEventsKept s t := by
  obtain ⟨-, -, -, -, -, store, events⟩ := claim_some e
  refine ⟨fun h => ?_, fun _ => claim_lowWaterTrue e, fun h => h.of_sublist ?_ ?_⟩
  · rcases events with same | low
    · rw [EventsAreASet, same]; exact h
    · rw [EventsAreASet, low]; exact insertId_sorted _ _ h
  · rw [store]
  · rw [store]

theorem storeClosed : StoreClosed StoreAndEventsKept where
  refl := refl
  trans := trans
  raise := raise
  notify := notify
  setUnit _ _ _ := stands rfl rfl rfl
  claim := claim
  giveBack _ _ := marked rfl rfl rfl rfl
  writeFrame _ _ _ _ := ⟨id, id, fun h => h.of_sublist (List.Sublist.refl _) rfl⟩
  handOver r s :=
    { events := fun h => by rw [EventsAreASet, handOver_events]; exact h
      low := fun h =>
        LowWaterTrue.keepOrDrop (s := { s with store := { s.store with nextId := nextFromOne s.store.assigned } }) h _
      index := fun h => h.handOver r }

theorem streamClosed : StreamClosed StoreAndEventsKept where
  refl := refl
  trans := trans
  raise := raise
  notify := notify
  iface := iface
  timers _ _ := stands rfl rfl rfl
  units _ _ := stands rfl rfl rfl

/-! The operations on conditions, timers and inputs. -/

theorem onCondition (op : ConditionSetup → ConditionState → ConditionState) (c : Fin 32) (s : State) :
    StoreAndEventsKept s (s.onCondition op c) := by
  have written : ∀ cs, StoreAndEventsKept s { s with conditions := cs } := fun _ => stands rfl rfl rfl
  unfold State.onCondition
  dsimp only
  split
  · exact (written _).trans (raise _ _)
  · exact written _

theorem measureHold (i : Fin 2) (time : Nat) (s : State) : StoreAndEventsKept s (s.measureHold i time) := by
  have written : ∀ is, StoreAndEventsKept s { s with inputs := is } := fun _ => stands rfl rfl rfl
  unfold State.measureHold State.acceptInput
  split
  · exact (written _).trans (raise _ _)
  · exact written _

theorem holdPin (i : Fin 2) (periods : Nat) (s : State) : StoreAndEventsKept s (s.holdPin i periods) := by
  unfold State.holdPin
  split
  · exact refl s
  · exact measureHold i _ s

theorem refilter (i : Fin 2) (s : State) : StoreAndEventsKept s (s.refilter i) := by
  rw [refilter_eq_holdPin]
  exact holdPin i 0 s

theorem samplePin (i : Fin 2) (level : Bool) (s : State) : StoreAndEventsKept s (s.samplePin i level) := by
  have written : ∀ is, StoreAndEventsKept s { s with inputs := is } := fun _ => stands rfl rfl rfl
  unfold State.samplePin
  dsimp only
  split
  · exact written _
  · split
    · exact (written _).trans (measureHold i 0 _)
    · exact written _

/-! The work of a frame (R16, R96). -/

theorem conditionAction (fired : List (Fin 48)) (s : State) (c : Fin 32) :
    StoreAndEventsKept s (s.conditionAction fired c) := by
  rw [conditionAction_eq]
  exact onCondition _ c s

theorem workFrame (f : HeldFrame) (during : List StreamEvent) (s : State) : StoreAndEventsKept s (s.workFrame f during) := by
  have evaluated : StoreAndEventsKept s (s.evaluatedFrame f) := emptied rfl rfl rfl
  have conditioned := evaluated.trans (storeClosed.foldl (conditionAction (s.firedAt f)) (List.finRange 32) _)
  have levels := lineActions_only (s.firedAt f)
    ((List.finRange 32).foldl (fun a c => a.conditionAction (s.firedAt f) c) (s.evaluatedFrame f))
  have lined : StoreAndEventsKept s (s.linedFrame f) :=
    conditioned.trans (stands levels.events levels.store (congrArg Setup.store levels.setup))
  have timed : ∀ t a, StoreAndEventsKept a (a.timerAction (s.firedAt f) t) := fun t a =>
    have only := timerAction_only (s.firedAt f) t a
    stands only.events only.store (congrArg Setup.store only.setup)
  rw [workFrame_lined]
  exact lined.trans (interleave_keeps _ _ _ refl (fun _ _ _ => trans) streamClosed.clock streamClosed.quiet
    (fun a => link _ a) timed (fun _ a => notify _ a) (fun k a => storeClosed.unitWork _ _ _ a k) _ _ _ _ _)

/-! Runs, stops and setups taken up as a whole (R191 to R193, R198, R199). -/

theorem startRun (s : State) : StoreAndEventsKept s s.startRun := by
  have prepared : StoreAndEventsKept s s.prepareRun := emptied rfl rfl rfl
  exact (prepared.trans (storeClosed.foldl storeClosed.armAtRun (List.finRange 4) _)).trans (iface _ _)

theorem stopEngine (s : State) : StoreAndEventsKept s s.stopEngine := by
  have halted : StoreAndEventsKept s s.haltBlocks := emptied rfl rfl rfl
  exact halted.trans (storeClosed.foldl (fun a k => storeClosed.stopUnit k a) _ _)

theorem takeUp (u : Setup) (s : State) : StoreAndEventsKept s (s.takeUp u) := by
  have loaded : StoreAndEventsKept s (State.markLow { s with
      setup := u, measures := tab fun _ => clearedMeasure, timers := tab fun t => { s.timers[t] with count := 0 } }) :=
    marked rfl rfl rfl rfl
  exact (loaded.trans (refilter 0 _)).trans (refilter 1 _)

theorem comeUp (cause : ReadyCause) (s : State) : StoreAndEventsKept s (s.comeUp cause) := by
  unfold State.comeUp
  dsimp only
  split
  · exact (notify _ s).trans (startRun _)
  · exact notify _ s
  · exact notify _ s

theorem startupRead (cause : ReadyCause) (u : Setup) (s : State) :
    StoreAndEventsKept s (State.comeUp cause { s.takeUp u with startup := none }) := by
  have started : StoreAndEventsKept (s.takeUp u) { s.takeUp u with startup := none } := stands rfl rfl rfl
  exact ((takeUp u s).trans started).trans (comeUp cause _)

theorem beginRestart (q : Request) (s : State) : StoreAndEventsKept s (s.beginRestart q) := by
  unfold State.beginRestart
  dsimp only
  split
  · exact ((link _ s).trans (stopEngine _)).trans (link _ _)
  · exact (link _ s).trans (link _ _)

theorem endRestart (s : State) : StoreAndEventsKept s s.endRestart := by
  have cleared : ∀ t : State, StoreAndEventsKept t t.clearRuntime := fun t => stands rfl rfl rfl
  exact (((takeUp _ s).trans (cleared _)).trans (comeUp .restart _)).trans (link _ _)

theorem endSave (copy : Setup) (verified : Bool) (s : State) : StoreAndEventsKept s (s.endSave copy verified) := by
  have imaged : ∀ i, StoreAndEventsKept s { s with image := i } := fun _ => stands rfl rfl rfl
  unfold State.endSave
  dsimp only
  split
  · exact (imaged _).trans (answer _ _)
  · exact answer _ s

theorem endLoad (s : State) : StoreAndEventsKept s s.endLoad := by
  unfold State.endLoad
  split
  · exact (takeUp _ s).trans (answer _ _)
  · exact answer _ s
  · exact answer _ s

/-- R170: after a hard reset nothing is pending, all 256 pages are free and the index is empty. -/
theorem afterReset (cause : ResetCause) (pins : ResetPins) (s : State) :
    StoreAndEventsKept s (State.afterReset cause pins s.image s.pending) where
  events _ := List.Pairwise.nil
  low _ := by
    rw [LowWaterTrue, afterReset_free, allPages_length]
    rfl
  index _ := ⟨Nat.zero_le _, List.nodup_nil, nofun, show (1 : CaptureId) ≠ 0 by decide⟩

/-! The requests. -/

theorem setPort (p : List Byte) (s : State) : StoreAndEventsKept s (setPort p s).1 := by
  rcases setPort_cases p s with e | ⟨u, -, -, e, ⟨a, -, rfl⟩ | ⟨b, -, rfl⟩ | ⟨i, -, rfl⟩⟩ <;> rw [e]
  · exact refl s
  all_goals exact stands rfl rfl rfl

theorem setMeasure (p : List Byte) (s : State) : StoreAndEventsKept s (setMeasure p s).1 := by
  rcases setMeasure_cases p s with e | ⟨m, u, -, -, e⟩ <;> rw [e]
  · exact refl s
  · exact stands rfl rfl rfl

theorem setCondition (p : List Byte) (s : State) : StoreAndEventsKept s (setCondition p s).1 := by
  rcases setCondition_cases p s with e | ⟨c, u, -, -, e⟩ <;> rw [e]
  · exact refl s
  · exact stands rfl rfl rfl

theorem setTimer (p : List Byte) (s : State) : StoreAndEventsKept s (setTimer p s).1 := by
  rcases setTimer_cases p s with e | ⟨k, u, -, -, e⟩ <;> rw [e]
  · exact refl s
  · exact stands rfl rfl rfl

theorem setBinding (p : List Byte) (s : State) : StoreAndEventsKept s (setBinding p s).1 := by
  rcases setBinding_cases p s with e | ⟨b, r, -, e⟩ <;> rw [e]
  · exact refl s
  · exact stands rfl rfl rfl

theorem setUnit (p : List Byte) (s : State) : StoreAndEventsKept s (setUnit p s).1 := by
  rcases setUnit_cases p s with e | ⟨k, u, -, -, e⟩ <;> rw [e]
  · exact refl s
  · exact stands rfl rfl rfl

theorem setLine (p : List Byte) (s : State) : StoreAndEventsKept s (setLine p s).1 := by
  rcases setLine_cases p s with e | ⟨o, u, e⟩ | ⟨i, f, -, e⟩ <;> rw [e]
  · exact refl s
  · exact stands rfl rfl rfl
  · have filtered : StoreAndEventsKept s { s with setup := { s.setup with filters := put s.setup.filters i f } } :=
      stands rfl rfl rfl
    exact filtered.trans (refilter i _)

theorem setStore (p : List Byte) (s : State) : StoreAndEventsKept s (setStore p s).1 := by
  rcases setStore_cases p s with e | ⟨u, -, e⟩ <;> rw [e]
  · exact refl s
  · exact marked rfl rfl rfl rfl

theorem autorunRequest (p : List Byte) (s : State) : StoreAndEventsKept s (autorunRequest p s).1 := by
  rcases autorunRequest_cases p s with e | ⟨b, e⟩ <;> rw [e]
  · exact refl s
  · exact stands rfl rfl rfl

theorem defaultRequest (p : List Byte) (s : State) : StoreAndEventsKept s (defaultRequest p s).1 := by
  rcases defaultRequest_cases p s with e | ⟨-, e⟩ <;> rw [e]
  · exact refl s
  · exact takeUp _ s

theorem runRequest (p : List Byte) (s : State) : StoreAndEventsKept s (runRequest p s).1 := by
  rcases runRequest_cases p s with e | ⟨-, -, e⟩ <;> rw [e]
  · exact refl s
  · exact startRun s

theorem stopRequest (p : List Byte) (s : State) : StoreAndEventsKept s (stopRequest p s).1 := by
  rcases stopRequest_cases p s with e | ⟨-, e⟩ <;> rw [e]
  · exact refl s
  · exact stopEngine s

theorem statusRequest (p : List Byte) (s : State) : StoreAndEventsKept s (statusRequest p s).1 := by
  rcases statusRequest_cases p s with e | e <;> rw [e]
  · exact refl s
  · exact link _ s

theorem conditionRequest (op : ConditionSetup → ConditionState → ConditionState) (p : List Byte) (s : State) :
    StoreAndEventsKept s (conditionRequest op p s).1 := by
  rcases conditionRequest_cases op p s with e | ⟨c, -, e⟩ <;> rw [e]
  · exact refl s
  · exact onCondition op c s

theorem timerRequest (op : TimerSetup → TimerState → TimerState) (p : List Byte) (s : State) :
    StoreAndEventsKept s (timerRequest op p s).1 := by
  rcases timerRequest_cases op p s with e | ⟨k, -, e⟩ <;> rw [e]
  · exact refl s
  · exact stands rfl rfl rfl

theorem fire (p : List Byte) (s : State) : StoreAndEventsKept s (fire p s).1 := by
  rcases fire_cases p s with e | ⟨ns, -, e⟩ <;> rw [e]
  · exact refl s
  · exact streamClosed.foldl (fun a n => raise (evSoft n) a) ns s

theorem driveLine (p : List Byte) (s : State) : StoreAndEventsKept s (driveLine p s).1 := by
  rcases driveLine_cases p s with e | ⟨op, o, e⟩ <;> rw [e]
  · exact refl s
  · exact stands rfl rfl rfl

theorem holdCapture (p : List Byte) (s : State) : StoreAndEventsKept s (holdCapture p s).1 := by
  rcases holdCapture_cases p s with e | ⟨r, -, mark, e⟩ <;> rw [e]
  · exact refl s
  · refine ⟨id, id, fun h => h.of_sublist ?_ rfl⟩
    rw [markHeld_ids]

theorem releaseCapture (p : List Byte) (s : State) : StoreAndEventsKept s (releaseCapture p s).1 := by
  rcases releaseCapture_cases p s with e | ⟨r, -, e⟩ <;> rw [e]
  · exact refl s
  · exact ⟨id, fun _ => rfl, fun h => h.removeRecord r⟩

/-! The rows. -/

theorem serve {act : List Byte → State → State × Answer} (kind : Byte)
    (effect : ∀ p s, StoreAndEventsKept s (act p s).1) (s : State) : StoreAndEventsKept s (serve kind act s) :=
  serve_keeps kind (fun a _ h => h.trans (answer a _)) (fun p => effect p s) (refl s)

theorem serve_report {act : List Byte → State → State × Answer} (kind : Byte) (report : ∀ p s, (act p s).1 = s)
    (s : State) : StoreAndEventsKept s (Machine.serve kind act s) :=
  serve kind (fun p s => (report p s).symm ▸ refl s) s

/-- A row that is carried out under a condition on the state, and otherwise leaves it. -/
theorem of_ite {p : Prop} [Decidable p] (h : StoreAndEventsKept s t) : StoreAndEventsKept s (if p then t else s) := by
  split
  · exact h
  · exact refl s

theorem clockAll (edges : List SckEdge) (s : State) : StoreAndEventsKept s (s.clockAll edges) :=
  streamClosed.clockAll edges s

theorem restart (q : Request) (s : State) :
    StoreAndEventsKept s (if q.payload ≠ [] then s.answer (refusal .badLength)
      else if s.link.replies.length < Config.replyPlaces then s.beginRestart q else s) := by
  split
  · exact answer _ s
  · exact of_ite (beginRestart q s)

theorem saveSetup (q : Request) (s : State) :
    StoreAndEventsKept s (if q.payload ≠ [] then s.answer (refusal .badLength) else s.beginSave) := by
  split
  · exact answer _ s
  · exact stands rfl rfl rfl

theorem loadSetup (q : Request) (s : State) :
    StoreAndEventsKept s (if q.payload ≠ [] then s.answer (refusal .badLength)
      else match s.engine with
        | .running => s.answer (refusal .state)
        | .stopped => s.dispatcherTo (.waiting .loading)) := by
  split
  · exact answer _ s
  · split
    · exact answer _ s
    · exact link _ s

/-- Every command keeps the event set a set, the low-water state true and the index consistent. -/
theorem of_exec (c : Instr) (e : exec c s = .next t) : StoreAndEventsKept s t := by
  cases c
  case hardReset cause pins => exact next_keeps (afterReset cause pins s) e
  case startupSetupRead =>
    refine next_keeps (P := StoreAndEventsKept s) ?_ e
    split
    · exact startupRead _ _ s
    · exact refl s
  case messageReceived bytes => exact next_keeps (link _ s) e
  case receiveTimeout periods => exact next_keeps (link _ s) e
  case stopBitError byte =>
    refine next_keeps (P := StoreAndEventsKept s) ?_ e
    split
    · exact refl s
    · exact link _ s
  case unknownKind => exact next_keeps (P := StoreAndEventsKept s) (onRequest_keeps (fun _ _ => answer _ s) (refl s)) e
  case replyPlaced =>
    refine next_keeps (P := StoreAndEventsKept s) ?_ e
    split
    · exact link _ s
    all_goals exact refl s
  case transmitComplete => exact next_keeps (link _ s) e
  case identify => exact next_keeps (serve_report _ identifyRequest_state s) e
  case status => exact next_keeps (serve _ statusRequest s) e
  case run => exact next_keeps (serve _ runRequest s) e
  case stop => exact next_keeps (serve _ stopRequest s) e
  case restart =>
    exact next_keeps (P := StoreAndEventsKept s) (onRequest_keeps (fun q _ => restart q s) (refl s)) e
  case restartSetupRead => exact next_keeps (of_ite (endRestart s)) e
  case saveSetup =>
    refine next_keeps (P := StoreAndEventsKept s) (onRequest_keeps (fun q _ => ?_) (refl s)) e
    exact saveSetup q s
  case saveComplete verified =>
    refine next_keeps (P := StoreAndEventsKept s) ?_ e
    split
    · exact endSave _ verified s
    all_goals exact refl s
  case loadSetup =>
    refine next_keeps (P := StoreAndEventsKept s) (onRequest_keeps (fun q _ => ?_) (refl s)) e
    exact loadSetup q s
  case loadComplete =>
    refine next_keeps (P := StoreAndEventsKept s) ?_ e
    split
    · exact endLoad s
    all_goals exact refl s
  case defaultSetup => exact next_keeps (serve _ defaultRequest s) e
  case setAutorun => exact next_keeps (serve _ autorunRequest s) e
  case setPort => exact next_keeps (serve _ setPort s) e
  case getPort => exact next_keeps (serve_report _ getPort_state s) e
  case setMeasure => exact next_keeps (serve _ setMeasure s) e
  case getMeasure => exact next_keeps (serve_report _ getMeasure_state s) e
  case setCondition => exact next_keeps (serve _ setCondition s) e
  case getCondition => exact next_keeps (serve_report _ getCondition_state s) e
  case armCondition => exact next_keeps (serve _ (conditionRequest condArm) s) e
  case disarmCondition => exact next_keeps (serve _ (conditionRequest condDisarm) s) e
  case unlatchCondition => exact next_keeps (serve _ (conditionRequest condUnlatch) s) e
  case setTimer => exact next_keeps (serve _ setTimer s) e
  case getTimer => exact next_keeps (serve_report _ getTimer_state s) e
  case startTimer => exact next_keeps (serve _ (timerRequest timerStart) s) e
  case stopTimer => exact next_keeps (serve _ (timerRequest timerStop) s) e
  case resumeTimer => exact next_keeps (serve _ (timerRequest timerResume) s) e
  case setBinding => exact next_keeps (serve _ setBinding s) e
  case getBinding => exact next_keeps (serve_report _ getBinding_state s) e
  case fire => exact next_keeps (serve _ fire s) e
  case setLine => exact next_keeps (serve _ setLine s) e
  case getLines => exact next_keeps (serve_report _ getLines_state s) e
  case driveLine => exact next_keeps (serve _ driveLine s) e
  case setUnit => exact next_keeps (serve _ setUnit s) e
  case getUnit => exact next_keeps (serve_report _ getUnit_state s) e
  case armUnit => exact next_keeps (serve _ storeClosed.armRequest s) e
  case triggerUnit => exact next_keeps (serve _ storeClosed.triggerRequest s) e
  case abortUnit => exact next_keeps (serve _ storeClosed.abortRequest s) e
  case listCaptures => exact next_keeps (serve_report _ listCaptures_state s) e
  case getCapture => exact next_keeps (serve_report _ getCapture_state s) e
  case readFrames => exact next_keeps (serve_report _ readFrames_state s) e
  case holdCapture => exact next_keeps (serve _ holdCapture s) e
  case releaseCapture => exact next_keeps (serve _ releaseCapture s) e
  case setStore => exact next_keeps (serve _ setStore s) e
  case getStore => exact next_keeps (serve_report _ getStore_state s) e
  case firstSyncEdge edges => exact next_keeps (of_ite (clockAll edges s)) e
  case frameBoundary edges => exact next_keeps (of_ite (clockAll edges s)) e
  case timerExpire timer edges => exact next_keeps (of_ite (clockAll edges s)) e
  case syncLost periods => exact next_keeps (streamClosed.quiet periods s) e
  case syncRegained edges => exact next_keeps (of_ite (clockAll edges s)) e
  case take during =>
    change execTake during s = .next t at e
    unfold execTake at e
    split at e <;> cases e
    · exact workFrame _ during s
    · exact refl s
    · exact refl s
  case inputAccepted input periods => exact next_keeps (holdPin input periods s) e
  case inputPinChange input level => exact next_keeps (samplePin input level s) e

/-- A step takes the command in front out of the queue and carries it out; an empty queue idles (log 1). -/
theorem of_step (e : step s = .next t) : StoreAndEventsKept s t := by
  unfold step at e
  split at e
  · cases e
    exact refl s
  · rename_i c rest _
    have taken : StoreAndEventsKept s { s with pending := rest } := stands rfl rfl rfl
    exact taken.trans (of_exec c e)

end StoreAndEventsKept

/-- Settles O5: every row keeps the three properties, each on its own. -/
theorem stepKeepsEventsLowWaterAndIndex : Obligations.StepKeepsEventsLowWaterAndIndex :=
  ⟨fun _ _ h e => (StoreAndEventsKept.of_step e).events h, fun _ _ h e => (StoreAndEventsKept.of_step e).low h,
    fun _ _ h e => (StoreAndEventsKept.of_step e).index h⟩

end Sys2Proof.Machine

namespace Sys2Proof.Machine

/-! ### The input filter (R111 to R113) -/

theorem filterReached_iff (time filter : Nat) : filterReached time filter = true ↔ filter * 24576 ≤ time * 1000 :=
  decide_eq_true_iff

/-- R111, R112: acceptance changes the input and the pending event set alone. -/
theorem acceptInput_eq (i : Fin 2) (s : State) :
    s.acceptInput i =
      { s with
        inputs := put s.inputs i { s.inputs[i] with filtered := s.inputs[i].pin, hold := none }
        events := if s.engine = .running then
            insertId (if s.inputs[i].pin then evRise i else evFall i) s.events
          else s.events } :=
  raise_eq _ _

theorem measureHold_reached {i : Fin 2} {time : Nat} {s : State} (h : s.setup.filters[i] * 24576 ≤ time * 1000) :
    s.measureHold i time = s.acceptInput i :=
  if_pos ((filterReached_iff _ _).2 h)

theorem measureHold_short {i : Fin 2} {time : Nat} {s : State} (h : time * 1000 < s.setup.filters[i] * 24576) :
    s.measureHold i time = { s with inputs := put s.inputs i { s.inputs[i] with hold := some time } } :=
  if_neg (mt (filterReached_iff _ _).1 (Nat.not_le.2 h))

/-- R113: a measurement that has reached the filter time is accepted when the filter is judged anew. -/
theorem refilter_reached {i : Fin 2} {time : Nat} {s : State} (hold : s.inputs[i].hold = some time)
    (h : s.setup.filters[i] * 24576 ≤ time * 1000) : s.refilter i = s.acceptInput i := by
  rw [State.refilter, hold]
  exact measureHold_reached h

/-- R113: a measurement short of the filter time runs on as it stands when the filter is judged anew. -/
theorem refilter_short {i : Fin 2} {s : State}
    (h : ∀ time, s.inputs[i].hold = some time → time * 1000 < s.setup.filters[i] * 24576) : s.refilter i = s := by
  unfold State.refilter
  cases hold : s.inputs[i].hold with
  | none => rfl
  | some time =>
    have same : { s.inputs[i] with hold := some time } = s.inputs[i] := by rw [← hold]
    dsimp only
    rw [measureHold_short (h time hold), same, put_same]

/-- R111: a sample at the filtered level ends the measurement. -/
theorem samplePin_filtered {i : Fin 2} {level : Bool} {s : State} (h : level = s.inputs[i].filtered) :
    s.samplePin i level = { s with inputs := put s.inputs i { s.inputs[i] with pin := level, hold := none } } :=
  if_pos h

/-- R111: a sample away from the filtered level with no measurement running starts one at zero, judged at once. -/
theorem samplePin_departs {i : Fin 2} {level : Bool} {s : State} (h : level ≠ s.inputs[i].filtered)
    (hold : s.inputs[i].hold = none) :
    s.samplePin i level =
      State.measureHold i 0 { s with inputs := put s.inputs i { s.inputs[i] with pin := level } } := by
  rw [State.samplePin, if_neg h, hold]

/-- R111: a sample away from the filtered level lets a running measurement run on. -/
theorem samplePin_stays {i : Fin 2} {level : Bool} {time : Nat} {s : State} (h : level ≠ s.inputs[i].filtered)
    (hold : s.inputs[i].hold = some time) :
    s.samplePin i level = { s with inputs := put s.inputs i { s.inputs[i] with pin := level } } := by
  rw [State.samplePin, if_neg h, hold]

theorem holdPin_measuring {i : Fin 2} {time : Nat} {s : State} (periods : Nat) (hold : s.inputs[i].hold = some time) :
    s.holdPin i periods = s.measureHold i (time + periods) := by
  rw [State.holdPin, hold]

/-- Settles O48: a sample by the level and the measurement it finds, a hold by whether it reaches the filter time. -/
theorem inputFilterHoldsThenAccepts : Obligations.InputFilterHoldsThenAccepts := by
  refine ⟨fun s i level => ⟨fun h => ?filtered, fun h hold hf => ?starts, fun time h hold => ?runs,
    fun h hold hf => ?atOnce⟩, fun s i time periods hold => ⟨fun h => ?accepted, fun h => ?short⟩⟩
  case filtered => exact congrArg Host.Outcome.next (samplePin_filtered h)
  case starts =>
    refine congrArg Host.Outcome.next ((samplePin_departs h hold).trans ?_)
    rw [measureHold_short]
    · dsimp only
      rw [put_put, put_get_self]
    · show 0 * 1000 < s.setup.filters[i] * 24576
      omega
  case runs => exact congrArg Host.Outcome.next (samplePin_stays h hold)
  case atOnce =>
    refine congrArg Host.Outcome.next ((samplePin_departs h hold).trans ?_)
    rw [measureHold_reached, acceptInput_eq]
    · dsimp only
      rw [put_put, put_get_self]
    · show s.setup.filters[i] * 24576 ≤ 0 * 1000
      omega
  case accepted =>
    refine congrArg Host.Outcome.next ((holdPin_measuring periods hold).trans ?_)
    rw [measureHold_reached h, acceptInput_eq]
  case short =>
    refine congrArg Host.Outcome.next ((holdPin_measuring periods hold).trans ?_)
    rw [measureHold_short h]

/-! ### DRIVE_LINE (R108, R110) -/

/-- R108, R110: each code up to 2 names an operation, and what that operation makes of an action level. -/
theorem readCode_lineOp {code : Nat} (h : code ≤ 2) :
    ∃ op, readCode LineOp.codes (BitVec.ofNat 8 code) = some op
      ∧ ∀ level, lineOp op level = if code = 0 then true else if code = 1 then false else !level := by
  interval_cases code
  · exact ⟨.set, rfl, fun _ => rfl⟩
  · exact ⟨.clear, rfl, fun _ => rfl⟩
  · exact ⟨.toggle, rfl, fun _ => rfl⟩

/-- R110: the reply to an accepted DRIVE_LINE tells the new action level and the pin level it gives. -/
theorem driveLine_accepted {p : Byte} {op : LineOp} (h : readCode LineOp.codes p = some op) (o : Fin 4) (s : State) :
    driveLine [BitVec.ofNat 8 o.val, p] s =
      (s.onLine op o, okay [yesNo (lineOp op s.actionLevels[o]),
        yesNo (pinLevel s.setup.outputs[o] (lineOp op s.actionLevels[o]) s.conditions)]) := by
  simp only [driveLine, readIndex_ofNat 4 (by decide), h, State.pin, State.onLine, put_get_self]

/-! ### SET_LINE (R113, R114) -/

/-- R114: the target of an input lies behind those of the outputs. -/
theorem readIndex_inputTarget (i : Fin 2) :
    readIndex 4 (BitVec.ofNat 8 (4 + i.val)) = none ∧ readIndex 2 (BitVec.ofNat 8 (4 + i.val) - 4) = some i := by
  revert i; decide

/-- R114: an output's setup is written, and the reply tells the pin level it gives. -/
theorem setLine_output (o : Fin 4) (u : OutputSetup) (s : State) :
    setLine (BitVec.ofNat 8 o.val :: u.bytes) s =
      ({ s with setup := { s.setup with outputs := put s.setup.outputs o u } },
        okay [yesNo (pinLevel u s.actionLevels[o] s.conditions)]) := by
  have hlen : u.bytes.length = 3 := rfl
  have hread : readOutput u.bytes = some u := (readOutput_iff _ _).2 rfl
  simp only [setLine, setOutput, readIndex_ofNat 4 (by decide), hlen, hread, State.pin, put_get_self, ne_eq,
    not_true_eq_false, if_false]

/-- R114, R113: an input's filter time is written and taken up by its measurement, and the reply tells the filtered level after that. -/
theorem setLine_input (i : Fin 2) (f : Byte) {s t : State}
    (h : State.refilter i { s with setup := { s.setup with filters := put s.setup.filters i f.toNat } } = t) :
    setLine [BitVec.ofNat 8 (4 + i.val), f] s = (t, okay [yesNo t.inputs[i].filtered]) := by
  obtain ⟨notOutput, input⟩ := readIndex_inputTarget i
  simp only [setLine, setInput, notOutput, input, h]

/-- R113: a measurement that has reached the changed filter time is accepted as the change is made. -/
theorem setLine_input_reached {i : Fin 2} {time : Nat} {f : Byte} {s : State} (hold : s.inputs[i].hold = some time)
    (h : f.toNat * 24576 ≤ time * 1000) :
    setLine [BitVec.ofNat 8 (4 + i.val), f] s =
      (State.acceptInput i { s with setup := { s.setup with filters := put s.setup.filters i f.toNat } },
        okay [yesNo s.inputs[i].pin]) := by
  rw [← put_get_self s.setup.filters i f.toNat] at h
  rw [setLine_input i f (refilter_reached (time := time) ?hold ?reached), acceptInput_inputs]
  case hold => exact hold
  case reached => exact h
  dsimp only
  rw [put_get_self]

/-- R113: a measurement short of the changed filter time runs on. -/
theorem setLine_input_short {i : Fin 2} {f : Byte} {s : State}
    (h : ∀ time, s.inputs[i].hold = some time → time * 1000 < f.toNat * 24576) :
    setLine [BitVec.ofNat 8 (4 + i.val), f] s =
      ({ s with setup := { s.setup with filters := put s.setup.filters i f.toNat } },
        okay [yesNo s.inputs[i].filtered]) := by
  rw [← put_get_self s.setup.filters i f.toNat] at h
  rw [setLine_input i f (refilter_short ?short)]
  case short => exact h

/-- Settles O47: DRIVE_LINE by its operation; SET_LINE by its target, an input by whether its measurement has reached the new filter time. -/
theorem lineRequestsActAtOnce : Obligations.LineRequestsActAtOnce := by
  refine ⟨?drive, fun s => ⟨fun o u hserves => ?output, fun i time f hserves hold h => ?accepted,
    fun i f hserves h => ?kept⟩⟩
  case drive =>
    rintro s o code level hcode rfl hserves
    obtain ⟨op, hop, hlevel⟩ := readCode_lineOp hcode
    refine congrArg Host.Outcome.next ((serve_serves driveLine hserves).trans ?_)
    rw [driveLine_accepted hop, ← hlevel]
    rfl
  case output =>
    refine congrArg Host.Outcome.next ((serve_serves setLine hserves).trans ?_)
    rw [setLine_output]
  case accepted =>
    refine congrArg Host.Outcome.next ((serve_serves setLine hserves).trans ?_)
    rw [setLine_input_reached hold h, acceptInput_eq]
  case kept =>
    refine congrArg Host.Outcome.next ((serve_serves setLine hserves).trans ?_)
    rw [setLine_input_short h]

end Sys2Proof.Machine

namespace Sys2Proof.Machine

/-! ### Frames and pages (R119) -/

theorem laneCount_le (mask : BitVec 16) : laneCount mask ≤ 16 := by
  have all := List.length_filter_le (inMask mask) (List.finRange 16)
  rwa [List.length_finRange] at all

/-- R118, R119: a mask that is not 0 names a lane. -/
theorem laneCount_pos {mask : BitVec 16} (h : mask ≠ 0) : 0 < laneCount mask := by
  obtain ⟨i, hi⟩ : ∃ i : Fin 16, mask.getLsbD i.val = true := by
    by_contra none
    refine h (BitVec.eq_of_getLsbD_eq fun i hi => ?_)
    show mask.getLsbD i = (0#16).getLsbD i
    rw [BitVec.getLsbD_zero]
    exact Bool.eq_false_iff.2 fun set => none ⟨⟨i, hi⟩, set⟩
  exact List.length_pos_of_mem (List.mem_filter.2 ⟨List.mem_finRange i, hi⟩)

/-- R119: a page has room for a frame. -/
theorem framesPerPage_pos {mask : BitVec 16} (h : mask ≠ 0) : 0 < framesPerPage mask :=
  Nat.div_pos (le_trans (laneCount_le mask) (by decide)) (laneCount_pos h)

/-! ### A unit's working record in its range (R120, R125, R127, R130) -/

/-- R139: what the record of a capture takes from the working record, under the unit's setup. -/
structure UnitHolds (setup : UnitSetup) (u : UnitState) : Prop where
  prePages : u.prePages.length = ringPages setup.mask setup.pre
  pre      : u.preCount ≤ setup.pre
  head     : if u.preCount < setup.pre then u.ringHead = u.preCount else u.ringHead = 0 ∨ u.ringHead < setup.pre
  posts    : u.postCount ≤ framesPerPage setup.mask * u.postPages.length

theorem UnitInRange.holds {setup : UnitSetup} {u : UnitState} (h : UnitInRange setup u) (hpost : u.phase = .post) :
    UnitHolds setup u where
  prePages := h.prePages
  pre := by rw [h.preCount hpost]; exact h.history
  head := by rw [h.preCount hpost]; exact h.head
  posts := h.posts

/-- R138: the record formed holds what the working record holds. -/
theorem UnitHolds.captureRecord {k : Fin 4} {s : State} (h : UnitHolds s.setup.units[k] s.units[k])
    (hmask : s.setup.units[k].mask ≠ 0) : RecordInRange (captureRecord k s) where
  mask := hmask
  pre := h.pre
  head := h.head
  pages := by
    show _ ≤ (s.units[k].prePages ++ s.units[k].postPages).length
    rw [List.length_append, h.prePages]
    exact Nat.le_add_right _ _
  posts := by
    show _ ≤ _ * ((s.units[k].prePages ++ s.units[k].postPages).length - ringPages s.setup.units[k].mask s.setup.units[k].pre)
    rw [List.length_append, h.prePages, Nat.add_sub_cancel_left]
    exact h.posts

/-- R122: with no history to fill the unit is ARMED at once. -/
theorem armedUnit_phase (setup : UnitSetup) (pages : List Page) :
    setup.pre = 0 ∧ (armedUnit setup pages).phase = .armed
      ∨ 0 < setup.pre ∧ (armedUnit setup pages).phase = .filling := by
  unfold armedUnit
  rcases Nat.eq_zero_or_pos setup.pre with zero | pos
  · exact .inl ⟨zero, if_pos zero⟩
  · exact .inr ⟨pos, if_neg (Nat.ne_of_gt pos)⟩

namespace UnitInRange

variable {setup : UnitSetup} {u : UnitState}

/-- R122: a unit armed with the pages of its ring. -/
theorem of_armed {pages : List Page} (h : pages.length = ringPages setup.mask setup.pre) :
    UnitInRange setup (armedUnit setup pages) where
  prePages := h
  history := Nat.zero_le _
  frames := rfl
  head := by
    show if 0 < setup.pre then 0 = 0 else 0 = 0 ∨ 0 < setup.pre
    split
    · rfl
    · exact .inl rfl
  filling hf := by
    rcases armedUnit_phase setup pages with ⟨-, e⟩ | ⟨pos, -⟩
    · rw [e] at hf; cases hf
    · exact pos
  armed ha := by
    rcases armedUnit_phase setup pages with ⟨zero, -⟩ | ⟨-, e⟩
    · exact zero.symm
    · rw [e] at ha; cases ha
  preCount _ := rfl
  post hp := by rcases armedUnit_phase setup pages with ⟨-, e⟩ | ⟨-, e⟩ <;> rw [e] at hp <;> cases hp
  posts := Nat.zero_le _

/-- R121: no range speaks of the flags. -/
theorem flagged (h : UnitInRange setup u) (flags : CaptureFlags) : UnitInRange setup { u with flags := flags } := { h with }

theorem interrupt (h : UnitInRange setup u) : UnitInRange setup u.interrupt := by
  unfold UnitState.interrupt
  split
  · exact h
  all_goals exact h.flagged _

/-- R128: no range speaks of the trigger frame and the first frame. -/
theorem fixTrigger (h : UnitInRange setup u) (frame : FrameNumber) : UnitInRange setup (u.fixTrigger frame) := by
  unfold UnitState.fixTrigger
  split
  · exact { h with }
  all_goals exact h

/-- R127: a trigger takes the history as the pre part and leaves the whole post part to come. -/
theorem triggered (h : UnitInRange setup u) (hset : setup.InRange) (source : Byte) (word : BitVec 32)
    (frame : Option FrameNumber) : UnitInRange setup (triggered setup source word frame u) where
  prePages := h.prePages
  history := h.history
  frames := h.frames
  head := h.head
  filling := nofun
  armed := nofun
  preCount _ := rfl
  post _ := by
    obtain ⟨-, -, one, most⟩ := hset
    exact ⟨one, most⟩
  posts := Nat.zero_le _

/-- R129. -/
theorem retriggered (h : UnitInRange setup u) (hset : setup.InRange) : UnitInRange setup (retriggered setup u) := by
  unfold Machine.retriggered
  split
  · exact { h with }
  · obtain ⟨-, -, one, most⟩ := hset
    exact { h with post := fun _ => ⟨one, most⟩ }

theorem ringWrite_length (p : Nat) (f : FrameNumber) (ring : List FrameNumber) :
    (ringWrite p f ring).length = if p < ring.length then ring.length else ring.length + 1 := by
  unfold ringWrite
  split <;> simp

/-- R125, R126: a history frame goes to the ring place after the frames already there, or over the oldest of a full ring. -/
theorem historyUnit (h : UnitInRange setup u) (hphase : u.phase = .filling ∨ u.phase = .armed) (hpre : setup.pre ≠ 0)
    (f : FrameNumber) : UnitInRange setup (historyUnit setup.pre f u) := by
  have pos : 0 < setup.pre := Nat.pos_of_ne_zero hpre
  have head := h.head
  by_cases full : u.historyCount = setup.pre
  · rw [if_neg (by omega)] at head
    have armed : u.phase = .armed := hphase.resolve_left fun hf => absurd (h.filling hf) (by omega)
    have written : u.ringHead < u.ringFrames.length := by rw [h.frames]; omega
    constructor <;> simp only [Machine.historyUnit, full, if_true]
    · exact h.prePages
    · exact Nat.le_refl _
    · rw [ringWrite_length, if_pos written, h.frames, full]
    · rw [if_neg (Nat.lt_irrefl _)]
      exact .inr (Nat.mod_lt _ pos)
    · exact nofun
    · exact fun _ => trivial
    · exact nofun
    · exact nofun
    · exact h.posts
  · have history := h.history
    rw [if_pos (by omega)] at head
    have appended : ¬ u.ringHead < u.ringFrames.length := by rw [h.frames]; omega
    have notPost : u.phase ≠ .post := by rcases hphase with e | e <;> rw [e] <;> decide
    constructor <;> simp only [Machine.historyUnit, if_neg full]
    · exact h.prePages
    · omega
    · rw [ringWrite_length, if_neg appended, h.frames]
    · rw [head]
      split
      · rw [Nat.mod_eq_of_lt (by omega)]
      · exact .inr (Nat.mod_lt _ pos)
    · split
      · exact nofun
      · exact fun _ => by omega
    · split
      · exact fun _ => by assumption
      · exact fun ha => absurd (h.armed ha) full
    · split
      · exact nofun
      · exact fun hp => absurd hp notPost
    · split
      · exact nofun
      · exact fun hp => absurd hp notPost
    · exact h.posts

/-- R150: a page joined to the post part. -/
theorem morePosts (h : UnitInRange setup u) (pages : List Page) :
    UnitInRange setup { u with postPages := u.postPages ++ pages } :=
  { h with
    posts := by
      dsimp only
      rw [List.length_append, Nat.mul_add]
      exact Nat.le_add_right_of_le h.posts }

end UnitInRange

end Sys2Proof.Machine

namespace Sys2Proof.Machine

/-! ### What is stored of a frame (R125, R130) -/

/-- One frame written in the page that is found, when there is one. -/
def State.storeAt (pg : Option Page) (pos : Nat) (mask : BitVec 16) (s : State) : State :=
  match pg with
  | some p => s.writeFrame p pos mask
  | none => s

@[simp] theorem storeAt_none (pos : Nat) (mask : BitVec 16) (s : State) : s.storeAt none pos mask = s := rfl

@[simp] theorem storeAt_some (pg : Page) (pos : Nat) (mask : BitVec 16) (s : State) :
    s.storeAt (some pg) pos mask = s.writeFrame pg pos mask := rfl

/-- The words alone change. -/
theorem storeAt_eq (pg : Option Page) (pos : Nat) (mask : BitVec 16) (s : State) :
    ∃ mem, s.storeAt pg pos mask = { s with store := { s.store with mem := mem } } := by
  cases pg with
  | none => exact ⟨s.store.mem, rfl⟩
  | some p => exact ⟨_, rfl⟩

theorem storeAt_only (pg : Option Page) (pos : Nat) (mask : BitVec 16) (s : State) : OnlyUnits s (s.storeAt pg pos mask) := by
  obtain ⟨mem, e⟩ := storeAt_eq pg pos mask s
  rw [e]
  constructor <;> rfl

@[simp] theorem storeAt_setup (pg : Option Page) (pos : Nat) (mask : BitVec 16) (s : State) :
    (s.storeAt pg pos mask).setup = s.setup := (storeAt_only pg pos mask s).setup

@[simp] theorem storeAt_units (pg : Option Page) (pos : Nat) (mask : BitVec 16) (s : State) :
    (s.storeAt pg pos mask).units = s.units := by
  obtain ⟨mem, e⟩ := storeAt_eq pg pos mask s
  rw [e]

@[simp] theorem storeAt_index (pg : Option Page) (pos : Nat) (mask : BitVec 16) (s : State) :
    (s.storeAt pg pos mask).store.index = s.store.index := by
  obtain ⟨mem, e⟩ := storeAt_eq pg pos mask s
  rw [e]

/-- R130 steps 2 to 5: the working record after a post frame. -/
def postUnit (f : FrameNumber) (u : UnitState) : UnitState :=
  { noteGap f u with postCount := u.postCount + 1, lastStored := some f, remaining := u.remaining - 1 }

/-- R131: the gap check writes the gap list and the flags alone. -/
theorem noteGap_eq (f : FrameNumber) (u : UnitState) : ∃ gaps flags, noteGap f u = { u with gaps := gaps, flags := flags } := by
  unfold noteGap
  split
  · split
    · exact ⟨_, u.flags, rfl⟩
    · exact ⟨u.gaps, _, rfl⟩
  · exact ⟨u.gaps, u.flags, rfl⟩

theorem postUnit_eq (f : FrameNumber) (u : UnitState) : ∃ gaps flags, postUnit f u =
    { u with
      gaps := gaps, flags := flags, postCount := u.postCount + 1, lastStored := some f, remaining := u.remaining - 1 } := by
  obtain ⟨gaps, flags, e⟩ := noteGap_eq f u
  exact ⟨gaps, flags, by rw [postUnit, e]⟩

/-- R125: a history frame stored. -/
theorem storeHistory_eq {k : Fin 4} {s : State} (hpre : s.setup.units[k].pre ≠ 0) (f : FrameNumber) :
    s.storeHistory k f =
      State.setUnitState k (historyUnit s.setup.units[k].pre f s.units[k])
        (s.storeAt (s.units[k].prePages[s.units[k].ringHead / framesPerPage s.setup.units[k].mask]?)
          (s.units[k].ringHead % framesPerPage s.setup.units[k].mask) s.setup.units[k].mask) := by
  unfold State.storeHistory
  dsimp only
  rw [if_neg hpre]
  rfl

/-- R130: the state in which a post frame is stored and the counts have moved on. -/
def State.postStored (k : Fin 4) (f : FrameNumber) (s : State) : State :=
  State.setUnitState k (postUnit f s.units[k])
    (s.storeAt (s.units[k].postPages[s.units[k].postCount / framesPerPage s.setup.units[k].mask]?)
      (s.units[k].postCount % framesPerPage s.setup.units[k].mask) s.setup.units[k].mask)

theorem storePost_eq (k : Fin 4) (f : FrameNumber) (s : State) :
    s.storePost k f =
      if s.units[k].remaining - 1 = 0 then ((s.postStored k f).closeCapture k).rearm k f else s.postStored k f := rfl

namespace UnitInRange

variable {setup : UnitSetup} {u : UnitState}

/-- R130: a post frame stored in a page with room. -/
theorem postUnit_holds (h : UnitInRange setup u) (hpost : u.phase = .post)
    (room : u.postCount < framesPerPage setup.mask * u.postPages.length) (f : FrameNumber) :
    UnitHolds setup (postUnit f u) := by
  obtain ⟨gaps, flags, e⟩ := postUnit_eq f u
  rw [e]
  exact { h.holds hpost with posts := room }

/-- R130: with post frames still to come the unit stays in POST. -/
theorem postUnit (h : UnitInRange setup u) (hpost : u.phase = .post)
    (room : u.postCount < framesPerPage setup.mask * u.postPages.length) (more : u.remaining - 1 ≠ 0) (f : FrameNumber) :
    UnitInRange setup (postUnit f u) := by
  obtain ⟨gaps, flags, e⟩ := postUnit_eq f u
  obtain ⟨-, most⟩ := h.post hpost
  rw [e]
  exact { h with
    post := fun _ => ⟨Nat.pos_of_ne_zero more, (Nat.sub_le _ _).trans most⟩
    posts := room }

end UnitInRange

/-! ### The captures kept in range -/

/-- The captures are in range where the units, their setups and the index stand. -/
theorem CapturesInRange.stands {s t : State} (h : CapturesInRange s) (setup : t.setup.units = s.setup.units)
    (units : t.units = s.units) (index : t.store.index = s.store.index) : CapturesInRange t := by
  constructor
  · rw [setup, units]; exact h.units
  · rw [index]; exact h.records

/-- With every unit IDLE the records of the index are all there is. -/
theorem CapturesInRange.atRest {s t : State} (h : CapturesInRange s) (idle : ∀ k : Fin 4, t.units[k].phase = .idle)
    (index : t.store.index = s.store.index) : CapturesInRange t :=
  ⟨fun k busy => absurd (idle k) busy, by rw [index]; exact h.records⟩

/-- A unit's record written in its range. -/
theorem CapturesInRange.setUnit {s : State} (h : CapturesInRange s) {k : Fin 4} {u : UnitState}
    (hu : u.phase ≠ .idle → UnitInRange s.setup.units[k] u) : CapturesInRange (s.setUnitState k u) where
  units j := by
    show (put s.units k u)[j].phase ≠ .idle → UnitInRange s.setup.units[j] (put s.units k u)[j]
    rw [put_get]
    split
    · rename_i e; subst e; exact hu
    · exact h.units j
  records := h.records

/-- R156: what the index holds after a record is kept or dropped. -/
theorem keepOrDrop_records {r x : CaptureRecord} {s : State} (hx : x ∈ (s.keepOrDrop r).1.store.index) :
    x ∈ s.store.index ∨ x = r := by
  have appended : ∀ {xs : List CaptureRecord}, xs ⊆ s.store.index → x ∈ xs ++ [r] → x ∈ s.store.index ∨ x = r := by
    intro xs sub hx
    rcases List.mem_append.1 hx with old | new
    · exact .inl (sub old)
    · exact .inr (List.mem_singleton.1 new)
  unfold State.keepOrDrop at hx
  split at hx
  · exact appended (List.Subset.refl _) hx
  · split at hx
    · exact .inl hx
    · split at hx
      · exact appended List.erase_subset hx
      · exact .inl hx

/-- R139: the id that the index assigns does not matter to the range of a record. -/
theorem RecordInRange.withId {r : CaptureRecord} (h : RecordInRange r) (id : CaptureId) : RecordInRange { r with id := id } :=
  { h with }

theorem CapturesInRange.handOver {s : State} (h : CapturesInRange s) {r : CaptureRecord} (hr : RecordInRange r) :
    CapturesInRange (s.handOver r).1 where
  units := by
    rw [(handOver_only r s).setup, handOver_units]
    exact h.units
  records x hx := by
    rcases keepOrDrop_records hx with old | rfl
    · exact h.records x old
    · exact hr.withId _

/-- R138: a unit whose working record holds a capture closes. -/
theorem CapturesInRange.closeWith {s : State} (h : CapturesInRange s) {k : Fin 4} {u : UnitState}
    (hmask : s.setup.units[k].mask ≠ 0) (hu : UnitHolds s.setup.units[k] u) :
    CapturesInRange ((s.setUnitState k u).closeCapture k) := by
  have written : (s.setUnitState k u).units[k] = u := put_get_self _ _ _
  have record : RecordInRange (captureRecord k (s.setUnitState k u)) :=
    UnitHolds.captureRecord (by rw [written]; exact hu) hmask
  have cleared : CapturesInRange ((s.setUnitState k u).setUnitState k clearedUnit) := by
    refine ⟨fun j => ?_, h.records⟩
    show (put (put s.units k u) k clearedUnit)[j].phase ≠ .idle →
      UnitInRange s.setup.units[j] (put (put s.units k u) k clearedUnit)[j]
    rw [put_get, put_get]
    split
    · exact fun busy => absurd rfl busy
    · exact h.units j
  have closed : CapturesInRange (State.raise (evClosed k)
      (((s.setUnitState k u).setUnitState k clearedUnit).handOver (captureRecord k (s.setUnitState k u))).1) :=
    (cleared.handOver record).stands (by simp) (by simp) (by simp)
  unfold State.closeCapture
  dsimp only
  split
  · exact closed.stands rfl rfl rfl
  · exact closed

/-- From `s` to `t` the units' setups stand, and, where they are in range, the captures stay in range. -/
structure CapturesKept (s t : State) : Prop where
  setup    : t.setup.units = s.setup.units
  captures : (∀ k : Fin 4, s.setup.units[k].InRange) → CapturesInRange s → CapturesInRange t

namespace CapturesKept

variable {s t u : State}

theorem refl (s : State) : CapturesKept s s := ⟨rfl, fun _ h => h⟩

theorem trans (h : CapturesKept s t) (g : CapturesKept t u) : CapturesKept s u :=
  ⟨g.setup.trans h.setup, fun hu hs => g.captures (h.setup ▸ hu) (h.captures hu hs)⟩

theorem foldl {α : Type} {f : State → α → State} (h : ∀ s x, CapturesKept s (f s x)) (xs : List α) (s : State) :
    CapturesKept s (xs.foldl f s) := by
  induction xs generalizing s with
  | nil => exact refl s
  | cons x xs ih => exact (h s x).trans (ih _)

theorem stands (setup : t.setup.units = s.setup.units) (units : t.units = s.units)
    (index : t.store.index = s.store.index) : CapturesKept s t :=
  ⟨setup, fun _ h => h.stands setup units index⟩

/-- Where the setup stands, whatever the units and the index do. -/
theorem of_only (only : OnlyUnits s t)
    (captures : (∀ k : Fin 4, s.setup.units[k].InRange) → CapturesInRange s → CapturesInRange t) : CapturesKept s t :=
  ⟨congrArg Setup.units only.setup, captures⟩

theorem of_link (g : OnlyLink s t) : CapturesKept s t :=
  stands (congrArg Setup.units g.setup) g.units (congrArg Store.index g.store)

theorem of_conditions (g : OnlyConditions s t) : CapturesKept s t :=
  stands (congrArg Setup.units g.setup) g.units (congrArg Store.index g.store)

theorem of_timers (g : OnlyTimers s t) : CapturesKept s t :=
  stands (congrArg Setup.units g.setup) g.units (congrArg Store.index g.store)

theorem of_levels (g : OnlyLevels s t) : CapturesKept s t :=
  stands (congrArg Setup.units g.setup) g.units (congrArg Store.index g.store)

theorem of_inputs (g : OnlyInputs s t) : CapturesKept s t :=
  stands (congrArg Setup.units g.setup) g.units (congrArg Store.index g.store)

theorem link (l : Link) (s : State) : CapturesKept s { s with link := l } := stands rfl rfl rfl

theorem notify (n : Notice) (s : State) : CapturesKept s (s.notify n) := link _ s

theorem answer (a : Answer) (s : State) : CapturesKept s (s.answer a) := stands (by simp) (by simp) (by simp)

theorem raise (id : EventId) (s : State) : CapturesKept s (s.raise id) := stands (by simp) (by simp) (by simp)

theorem iface (i : FrameInterface) (s : State) : CapturesKept s { s with iface := i } := stands rfl rfl rfl

theorem giveBack (pages : List Page) (s : State) : CapturesKept s (s.giveBack pages) := stands rfl rfl rfl

theorem claim {k : Nat} {pages : List Page} (e : s.claim k = some (pages, t)) : CapturesKept s t := by
  obtain ⟨-, -, only, units, -, store, -⟩ := claim_some e
  exact stands (congrArg Setup.units only.setup) units (by rw [store])

theorem storeAt (pg : Option Page) (pos : Nat) (mask : BitVec 16) (s : State) : CapturesKept s (s.storeAt pg pos mask) :=
  stands (by simp) (by simp) (by simp)

/-- A unit's record written that stays in its range. -/
theorem setUnit {k : Fin 4} {v : UnitState}
    (hv : s.setup.units[k].InRange → (s.units[k].phase ≠ .idle → UnitInRange s.setup.units[k] s.units[k]) →
      v.phase ≠ .idle → UnitInRange s.setup.units[k] v) : CapturesKept s (s.setUnitState k v) :=
  ⟨rfl, fun hu h => h.setUnit (hv (hu k) (h.units k))⟩

/-! The units' operations (R122 to R147). -/

theorem clearUnit (k : Fin 4) (s : State) : CapturesKept s (s.setUnitState k clearedUnit) :=
  ⟨rfl, fun _ h => h.setUnit fun busy => absurd rfl busy⟩

/-- R122: the unit armed has the pages that it claimed. -/
theorem tryArm {k : Fin 4} (e : s.tryArm k = some t) : CapturesKept s t := by
  unfold State.tryArm at e
  split at e
  · rename_i pages v granted
    obtain ⟨free, taken, only, -, -, -, -⟩ := claim_some granted
    cases e
    refine (claim granted).trans ⟨rfl, fun _ h => h.setUnit fun _ => ?_⟩
    rw [only.setup]
    exact .of_armed (by rw [taken, List.length_take, Nat.min_eq_left free])
  · cases e

theorem armUnitBy (k : Fin 4) (cause : ArmCause) (frame : FrameNumber) (s : State) :
    CapturesKept s (s.armUnitBy k cause frame) := by
  unfold State.armUnitBy State.armOrReport
  split
  · split
    · exact tryArm (by assumption)
    · exact notify _ s
  all_goals exact refl s

theorem rearm (k : Fin 4) (frame : FrameNumber) (s : State) : CapturesKept s (s.rearm k frame) := by
  unfold State.rearm
  split
  · exact armUnitBy k _ frame s
  · exact refl s

theorem armAtRun (s : State) (k : Fin 4) : CapturesKept s (s.armAtRun k) := by
  unfold State.armAtRun
  split
  · exact armUnitBy k _ _ s
  · exact refl s

theorem triggerUnitBy (k : Fin 4) (source : Byte) (word : BitVec 32) (frame : Option FrameNumber) (s : State) :
    CapturesKept s (s.triggerUnitBy k source word frame) := by
  have entered : s.units[k].phase ≠ .idle →
      CapturesKept s ((s.setUnitState k (triggered s.setup.units[k] source word frame s.units[k])).raise (evTriggered k)) :=
    fun busy => (setUnit fun hu h _ => (h busy).triggered hu source word frame).trans (raise _ _)
  unfold State.triggerUnitBy
  split
  · exact refl s
  · rename_i e
    exact entered (by rw [e]; decide)
  · rename_i e
    exact entered (by rw [e]; decide)
  · rename_i e
    exact setUnit fun hu h _ => (h (by rw [e]; decide)).retriggered hu

theorem giveUp (k : Fin 4) (s : State) : CapturesKept s (s.giveUp k) := (clearUnit k s).trans (giveBack _ _)

/-- R135, R147: a unit in POST closes with a flag set. -/
theorem flagAndClose {k : Fin 4} (hpost : s.units[k].phase = .post) (f : CaptureFlags → CaptureFlags) :
    CapturesKept s ((s.flagUnit k f).closeCapture k) := by
  refine of_only ((flagUnit_only k f s).trans (closeCapture_only k _)) fun hu h => ?_
  have holds : UnitHolds s.setup.units[k] s.units[k] := (h.units k (by rw [hpost]; decide)).holds hpost
  exact h.closeWith (hu k).1 { holds with }

theorem abortUnitBy (k : Fin 4) (s : State) : CapturesKept s (s.abortUnitBy k) := by
  unfold State.abortUnitBy
  split
  · exact refl s
  · exact giveUp k s
  · exact giveUp k s
  · exact flagAndClose (by assumption) _

theorem stopUnit (k : Fin 4) (s : State) : CapturesKept s (s.stopUnit k) := by
  unfold State.stopUnit
  split
  · exact refl s
  · exact giveUp k s
  · exact giveUp k s
  · exact flagAndClose (by assumption) _

theorem discardCapture (k : Fin 4) (s : State) : CapturesKept s (s.discardCapture k) :=
  (((clearUnit k s).trans (giveBack _ _)).trans (notify _ _)).trans (raise _ _)

theorem storeHistory {k : Fin 4} (hphase : s.units[k].phase = .filling ∨ s.units[k].phase = .armed) (f : FrameNumber) :
    CapturesKept s (s.storeHistory k f) := by
  by_cases hpre : s.setup.units[k].pre = 0
  · have same : s.storeHistory k f = s := by
      unfold State.storeHistory
      exact if_pos hpre
    rw [same]
    exact refl s
  · rw [storeHistory_eq hpre]
    refine (storeAt _ _ _ s).trans (setUnit fun _ h _ => ?_)
    rw [storeAt_setup, storeAt_units] at *
    have busy : s.units[k].phase ≠ .idle := by rcases hphase with e | e <;> rw [e] <;> decide
    exact (h busy).historyUnit hphase hpre f

/-- R130 steps 2 to 5: a frame stored in an open page with room. -/
theorem storePost {k : Fin 4} (hpost : s.units[k].phase = .post)
    (room : s.setup.units[k].InRange → UnitInRange s.setup.units[k] s.units[k] →
      s.units[k].postCount < framesPerPage s.setup.units[k].mask * s.units[k].postPages.length)
    (f : FrameNumber) : CapturesKept s (s.storePost k f) := by
  have busy : s.units[k].phase ≠ .idle := by rw [hpost]; decide
  rw [storePost_eq]
  split
  · refine .trans (of_only ?_ fun hu h => ?_) (rearm k f _)
    · exact ((storeAt_only _ _ _ s).trans (setUnitState_only k _ _)).trans (closeCapture_only k _)
    · have inRange := h.units k busy
      refine CapturesInRange.closeWith ((storeAt _ _ _ s).captures hu h) ?_ ?_ <;> rw [storeAt_setup]
      · exact (hu k).1
      · exact inRange.postUnit_holds hpost (room (hu k) inRange) f
  · refine (storeAt _ _ _ s).trans (setUnit fun hu h _ => ?_)
    rw [storeAt_setup, storeAt_units] at *
    exact (h busy).postUnit hpost (room hu (h busy)) (by assumption) f

theorem pageRefused {k : Fin 4} (hpost : s.units[k].phase = .post) (f : FrameNumber) :
    CapturesKept s (s.pageRefused k f) := by
  unfold State.pageRefused
  split
  · exact (flagAndClose hpost _).trans (rearm k f _)
  · exact (discardCapture k s).trans (rearm k f _)

/-- R130 step 1: a page that the claim grants joins the post part. -/
theorem claimPost {k : Fin 4} {pages : List Page} (hpost : s.units[k].phase = .post) (e : s.claim 1 = some (pages, t)) :
    CapturesKept s (t.setUnitState k { s.units[k] with postPages := s.units[k].postPages ++ pages }) := by
  obtain ⟨-, -, only, units, -, -, -⟩ := claim_some e
  refine (claim e).trans ⟨rfl, fun _ h => h.setUnit fun busy => ?_⟩
  have inRange := h.units k (by rw [units, hpost]; decide)
  rw [units] at inRange
  exact inRange.morePosts pages

theorem handlePost {k : Fin 4} (hpost : s.units[k].phase = .post) (f : FrameNumber) :
    CapturesKept s (s.handlePost k f) := by
  unfold State.handlePost
  split
  · rename_i needs
    split
    · rename_i pages t granted
      obtain ⟨free, taken, only, -, -, -, -⟩ := claim_some granted
      have one : pages.length = 1 := by rw [taken, List.length_take, Nat.min_eq_left free]
      have written : (t.setUnitState k { s.units[k] with postPages := s.units[k].postPages ++ pages }).units[k] =
          { s.units[k] with postPages := s.units[k].postPages ++ pages } := put_get_self _ _ _
      rw [needsPage, decide_eq_true_iff] at needs
      refine (claimPost hpost granted).trans (storePost (by rw [written]; exact hpost) (fun hset _ => ?_) f)
      rw [written, State.setUnitState_setup, only.setup] at *
      rw [List.length_append, one, needs, Nat.mul_comm, Nat.mul_add]
      have pos := framesPerPage_pos hset.1
      omega
    · exact pageRefused hpost f
  · rename_i notNeeded
    refine storePost hpost (fun _ h => ?_) f
    rw [needsPage, decide_eq_true_iff, Nat.mul_comm] at notNeeded
    exact Nat.lt_of_le_of_ne h.posts notNeeded

theorem handleFrame (k : Fin 4) (f : FrameNumber) (s : State) : CapturesKept s (s.handleFrame k f) := by
  unfold State.handleFrame
  split
  · exact refl s
  · exact storeHistory (.inl (by assumption)) f
  · exact storeHistory (.inr (by assumption)) f
  · exact handlePost (by assumption) f

theorem unitWork (fired : List (Fin 48)) (frame : FrameNumber) (word : BitVec 32) (s : State) (k : Fin 4) :
    CapturesKept s (s.unitWork fired frame word k) := by
  have acted : CapturesKept s (s.unitAction fired frame word k) := by
    unfold State.unitAction
    split
    · exact abortUnitBy k s
    · exact triggerUnitBy k _ _ _ s
    · exact armUnitBy k _ _ s
    · exact refl s
  exact acted.trans (handleFrame k frame _)

end CapturesKept

end Sys2Proof.Machine

namespace Sys2Proof.Machine

/-! ### The stream leaves the units (R1 to R15), but for their INTERRUPTED flags (R126) -/

theorem boundary_units (s : State) : s.boundary.units = s.units := by
  obtain ⟨_, _, _, _, _, ended, -⟩ := endFrame_ended
    (State.advanceTimers { s with iface := { s.iface with frameNumber := s.iface.frameNumber + 1 } })
  obtain ⟨_, advanced, -⟩ := advanceTimers_eq { s with iface := { s.iface with frameNumber := s.iface.frameNumber + 1 } }
  unfold State.boundary
  rw [State.startFrame_units, ended, advanced]

theorem syncEdge_units (s : State) : s.syncEdge.units = s.units := by
  unfold State.syncEdge
  split
  · rfl
  · rfl
  · simp [State.regain]
  · split
    · rfl
    · exact boundary_units s

theorem judgeSync_units (e : SckEdge) (s : State) : (s.judgeSync e).units = s.units := by
  unfold State.judgeSync
  dsimp only
  split
  · split
    · exact syncEdge_units (s.noteFsy (s.fsyLevel e))
    · rfl
  · rfl

theorem clock_units (e : SckEdge) (s : State) : (s.clock e).units = s.units := by
  have sampled : (((s.noteSck e).judgeSync e).shiftIn e).units = s.units := by
    obtain ⟨a, b, shifted⟩ := shiftIn_eq e ((s.noteSck e).judgeSync e)
    rw [shifted]
    exact judgeSync_units e (s.noteSck e)
  unfold State.clock
  split
  · rfl
  all_goals exact sampled

namespace CapturesKept

variable {s t u : State}

theorem clock (e : SckEdge) (s : State) : CapturesKept s (s.clock e) :=
  have only := clock_only e s
  stands (congrArg Setup.units only.setup) (clock_units e s) (congrArg Store.index only.store)

theorem clockAll (edges : List SckEdge) (s : State) : CapturesKept s (s.clockAll edges) :=
  foldl (fun a e => clock e a) edges s

/-- Every unit's record written that stays in its range. -/
theorem tabUnits {f : Fin 4 → UnitState} (hf : ∀ {k : Fin 4} {v : UnitSetup}, (f k).phase ≠ .idle →
    (s.units[k].phase ≠ .idle → UnitInRange v s.units[k]) → UnitInRange v (f k)) :
    CapturesKept s { s with units := tab f } := by
  refine ⟨rfl, fun _ h => ⟨fun k => ?_, h.records⟩⟩
  show (tab f)[k].phase ≠ .idle → UnitInRange s.setup.units[k] (tab f)[k]
  rw [tab_get]
  exact fun busy => hf busy (h.units k)

theorem interrupt_phase (v : UnitState) : v.interrupt.phase = v.phase := by
  unfold UnitState.interrupt
  split <;> rfl

/-- R126: the loss of sync sets a flag in each unit that is not IDLE. -/
theorem loseSync (s : State) : CapturesKept s s.loseSync := by
  have interrupted : CapturesKept s { s with units := tab fun k => s.units[k].interrupt } :=
    tabUnits fun busy h => (h (by rwa [interrupt_phase] at busy)).interrupt
  exact ((interrupted.trans (iface _ _)).trans (raise _ _)).trans (notify _ _)

theorem quiet (periods : Nat) (s : State) : CapturesKept s (s.quiet periods) := by
  unfold State.quiet
  split
  · exact refl s
  · split
    · exact loseSync s
    · exact iface _ s

/-! The work of a frame (R16, R96, R128). -/

theorem fixTrigger_phase (v : UnitState) (frame : FrameNumber) : (v.fixTrigger frame).phase = v.phase := by
  unfold UnitState.fixTrigger
  split <;> rfl

theorem evaluatedFrame (f : HeldFrame) (s : State) : CapturesKept s (s.evaluatedFrame f) := by
  have fixed : CapturesKept s { s with units := tab fun k => s.units[k].fixTrigger f.number } :=
    tabUnits fun busy h => (h (by rwa [fixTrigger_phase] at busy)).fixTrigger _
  exact fixed.trans (stands rfl rfl rfl)

theorem workFrame (f : HeldFrame) (during : List StreamEvent) (s : State) : CapturesKept s (s.workFrame f during) := by
  have lined : CapturesKept s (s.linedFrame f) :=
    ((evaluatedFrame f s).trans (of_conditions (conditionActions_only _ _))).trans (of_levels (lineActions_only _ _))
  rw [workFrame_lined]
  exact lined.trans (interleave_keeps _ _ _ refl (fun _ _ _ => trans) clock quiet (fun a => link _ a)
    (fun k a => of_timers (timerAction_only _ k a)) (fun _ a => notify _ a) (fun k a => unitWork _ _ _ a k) _ _ _ _ _)

/-! Runs and stops (R191, R192, R198, R199). -/

theorem startRun (s : State) : CapturesKept s s.startRun := by
  have prepared : CapturesKept s s.prepareRun := stands rfl rfl rfl
  exact (prepared.trans (foldl armAtRun (List.finRange 4) _)).trans (iface _ _)

theorem stopEngine (s : State) : CapturesKept s s.stopEngine := by
  have halted : CapturesKept s s.haltBlocks := stands rfl rfl rfl
  exact halted.trans (foldl (fun a k => stopUnit k a) _ _)

theorem comeUp (cause : ReadyCause) (s : State) : CapturesKept s (s.comeUp cause) := by
  unfold State.comeUp
  dsimp only
  split
  · exact (notify _ s).trans (startRun _)
  · exact notify _ s
  · exact notify _ s

theorem beginRestart (q : Request) (s : State) : CapturesKept s (s.beginRestart q) := by
  unfold State.beginRestart
  dsimp only
  split
  · exact ((link _ s).trans (stopEngine _)).trans (link _ _)
  · exact (link _ s).trans (link _ _)

theorem endSave (copy : Setup) (verified : Bool) (s : State) : CapturesKept s (s.endSave copy verified) := by
  have imaged : ∀ i, CapturesKept s { s with image := i } := fun _ => stands rfl rfl rfl
  unfold State.endSave
  dsimp only
  split
  · exact (imaged _).trans (answer _ _)
  · exact answer _ s

/-! The requests. -/

theorem setPort (p : List Byte) (s : State) : CapturesKept s (setPort p s).1 := by
  rcases setPort_cases p s with e | ⟨u, -, -, e, ⟨a, -, rfl⟩ | ⟨b, -, rfl⟩ | ⟨i, -, rfl⟩⟩ <;> rw [e]
  · exact refl s
  all_goals exact stands rfl rfl rfl

theorem setMeasure (p : List Byte) (s : State) : CapturesKept s (setMeasure p s).1 := by
  rcases setMeasure_cases p s with e | ⟨m, u, -, -, e⟩ <;> rw [e]
  · exact refl s
  · exact stands rfl rfl rfl

theorem setCondition (p : List Byte) (s : State) : CapturesKept s (setCondition p s).1 := by
  rcases setCondition_cases p s with e | ⟨c, u, -, -, e⟩ <;> rw [e]
  · exact refl s
  · exact stands rfl rfl rfl

theorem setTimer (p : List Byte) (s : State) : CapturesKept s (setTimer p s).1 := by
  rcases setTimer_cases p s with e | ⟨k, u, -, -, e⟩ <;> rw [e]
  · exact refl s
  · exact stands rfl rfl rfl

theorem setBinding (p : List Byte) (s : State) : CapturesKept s (setBinding p s).1 := by
  rcases setBinding_cases p s with e | ⟨b, r, -, e⟩ <;> rw [e]
  · exact refl s
  · exact stands rfl rfl rfl

theorem setLine (p : List Byte) (s : State) : CapturesKept s (setLine p s).1 := by
  rcases setLine_cases p s with e | ⟨o, u, e⟩ | ⟨i, f, -, e⟩ <;> rw [e]
  · exact refl s
  · exact stands rfl rfl rfl
  · have filtered : CapturesKept s { s with setup := { s.setup with filters := put s.setup.filters i f } } :=
      stands rfl rfl rfl
    exact filtered.trans (of_inputs (refilter_only i _))

theorem setStore (p : List Byte) (s : State) : CapturesKept s (setStore p s).1 := by
  rcases setStore_cases p s with e | ⟨u, -, e⟩ <;> rw [e]
  · exact refl s
  · exact stands rfl rfl rfl

theorem autorunRequest (p : List Byte) (s : State) : CapturesKept s (autorunRequest p s).1 := by
  rcases autorunRequest_cases p s with e | ⟨b, e⟩ <;> rw [e]
  · exact refl s
  · exact stands rfl rfl rfl

theorem runRequest (p : List Byte) (s : State) : CapturesKept s (runRequest p s).1 := by
  rcases runRequest_cases p s with e | ⟨-, -, e⟩ <;> rw [e]
  · exact refl s
  · exact startRun s

theorem stopRequest (p : List Byte) (s : State) : CapturesKept s (stopRequest p s).1 := by
  rcases stopRequest_cases p s with e | ⟨-, e⟩ <;> rw [e]
  · exact refl s
  · exact stopEngine s

theorem statusRequest (p : List Byte) (s : State) : CapturesKept s (statusRequest p s).1 := by
  rcases statusRequest_cases p s with e | e <;> rw [e]
  · exact refl s
  · exact link _ s

theorem conditionRequest (op : ConditionSetup → ConditionState → ConditionState) (p : List Byte) (s : State) :
    CapturesKept s (conditionRequest op p s).1 := by
  rcases conditionRequest_cases op p s with e | ⟨c, -, e⟩ <;> rw [e]
  · exact refl s
  · exact of_conditions (onCondition_only op c s)

theorem timerRequest (op : TimerSetup → TimerState → TimerState) (p : List Byte) (s : State) :
    CapturesKept s (timerRequest op p s).1 := by
  rcases timerRequest_cases op p s with e | ⟨k, -, e⟩ <;> rw [e]
  · exact refl s
  · exact stands rfl rfl rfl

theorem fire (p : List Byte) (s : State) : CapturesKept s (fire p s).1 := by
  rcases fire_cases p s with e | ⟨ns, -, e⟩ <;> rw [e]
  · exact refl s
  · exact foldl (fun a n => raise (evSoft n) a) ns s

theorem driveLine (p : List Byte) (s : State) : CapturesKept s (driveLine p s).1 := by
  rcases driveLine_cases p s with e | ⟨op, o, e⟩ <;> rw [e]
  · exact refl s
  · exact stands rfl rfl rfl

theorem unitRequest {act : Fin 4 → State → State × Answer} (effect : ∀ k s, CapturesKept s (act k s).1) (p : List Byte)
    (s : State) : CapturesKept s (unitRequest act p s).1 := by
  rcases unitRequest_cases act p s with e | ⟨k, -, e⟩ <;> rw [e]
  · exact refl s
  · exact effect k s

theorem armRequest (k : Fin 4) (s : State) : CapturesKept s (armRequest k s).1 := by
  rcases armRequest_cases k s with e | ⟨-, e⟩
  · rw [e]; exact refl s
  · exact tryArm e

theorem triggerRequest (k : Fin 4) (s : State) : CapturesKept s (triggerRequest k s).1 := by
  rcases triggerRequest_cases k s with e | ⟨-, e⟩ <;> rw [e]
  · exact refl s
  · exact triggerUnitBy k _ _ _ s

theorem abortRequest (k : Fin 4) (s : State) : CapturesKept s (abortRequest k s).1 := by
  rcases abortRequest_cases k s with e | ⟨-, e⟩ <;> rw [e]
  · exact refl s
  · exact abortUnitBy k s

/-- R164: the held mark is no part of the range of a record. -/
theorem holdCapture (p : List Byte) (s : State) : CapturesKept s (holdCapture p s).1 := by
  rcases holdCapture_cases p s with e | ⟨r, -, mark, e⟩ <;> rw [e]
  · exact refl s
  · refine ⟨rfl, fun _ h => ⟨h.units, fun x hx => ?_⟩⟩
    obtain ⟨y, hy, rfl⟩ := List.mem_map.1 hx
    have range := h.records y hy
    split
    · exact { range with }
    · exact range

theorem releaseCapture (p : List Byte) (s : State) : CapturesKept s (releaseCapture p s).1 := by
  rcases releaseCapture_cases p s with e | ⟨r, -, e⟩ <;> rw [e]
  · exact refl s
  · exact ⟨rfl, fun _ h => ⟨h.units, fun x hx => h.records x (List.mem_of_mem_erase hx)⟩⟩

theorem serve {act : List Byte → State → State × Answer} (kind : Byte) (effect : ∀ p s, CapturesKept s (act p s).1)
    (s : State) : CapturesKept s (serve kind act s) :=
  serve_keeps kind (fun a _ h => h.trans (answer a _)) (fun p => effect p s) (refl s)

theorem serve_report {act : List Byte → State → State × Answer} (kind : Byte) (report : ∀ p s, (act p s).1 = s)
    (s : State) : CapturesKept s (Machine.serve kind act s) :=
  serve kind (fun p s => (report p s).symm ▸ refl s) s

/-- A row that is carried out under a condition on the state, and otherwise leaves it. -/
theorem of_ite {p : Prop} [Decidable p] (h : CapturesKept s t) : CapturesKept s (if p then t else s) := by
  split
  · exact h
  · exact refl s

theorem restart (q : Request) (s : State) :
    CapturesKept s (if q.payload ≠ [] then s.answer (refusal .badLength)
      else if s.link.replies.length < Config.replyPlaces then s.beginRestart q else s) := by
  split
  · exact answer _ s
  · exact of_ite (beginRestart q s)

theorem saveSetup (q : Request) (s : State) :
    CapturesKept s (if q.payload ≠ [] then s.answer (refusal .badLength) else s.beginSave) := by
  split
  · exact answer _ s
  · exact stands rfl rfl rfl

theorem loadSetup (q : Request) (s : State) :
    CapturesKept s (if q.payload ≠ [] then s.answer (refusal .badLength)
      else match s.engine with
        | .running => s.answer (refusal .state)
        | .stopped => s.dispatcherTo (.waiting .loading)) := by
  split
  · exact answer _ s
  · split
    · exact answer _ s
    · exact link _ s

end CapturesKept

/-! ### The rows that write the units' setups (R142, R193) -/

namespace CapturesInRange

variable {s : State} (h : CapturesInRange s)
include h

theorem answer (a : Answer) : CapturesInRange (s.answer a) := h.stands (by simp) (by simp) (by simp)

theorem serve {act : List Byte → State → State × Answer} (kind : Byte) (effect : ∀ p, CapturesInRange (act p s).1) :
    CapturesInRange (serve kind act s) :=
  serve_keeps kind (fun a _ ht => ht.answer a) effect h

/-- R142: the unit whose setup is written is IDLE, and stays so. -/
theorem setUnitRequest (p : List Byte) : CapturesInRange (Machine.setUnit p s).1 := by
  rcases setUnit_cases p s with e | ⟨k, u, -, -, e⟩ <;> rw [e]
  · exact h
  · refine ⟨fun j => ?_, h.records⟩
    show (put s.units k clearedUnit)[j].phase ≠ .idle →
      UnitInRange (put s.setup.units k u)[j] (put s.units k clearedUnit)[j]
    rw [put_get, put_get]
    split
    · exact fun busy => absurd rfl busy
    · exact h.units j

/-- R193: a setup taken up as a whole finds every unit IDLE. -/
theorem takeUp (idle : ∀ k : Fin 4, s.units[k].phase = .idle) (u : Setup) : CapturesInRange (s.takeUp u) := by
  have units : (s.takeUp u).units = s.units := by simp [State.takeUp]
  refine h.atRest ?_ ?_
  · rw [units]; exact idle
  · simp [State.takeUp, State.markLow]

theorem defaultRequest (he : EngineConsistent s) (p : List Byte) : CapturesInRange (defaultRequest p s).1 := by
  rcases defaultRequest_cases p s with e | ⟨hstop, e⟩ <;> rw [e]
  · exact h
  · exact h.takeUp (he.units hstop) _

theorem endLoad (he : EngineConsistent s) (hd : s.link.dispatcher = .waiting .loading) : CapturesInRange s.endLoad := by
  unfold State.endLoad
  split
  · exact (h.takeUp (he.units (he.reloading (.inr (.inr hd)))) _).answer _
  · exact h.answer _
  · exact h.answer _

variable (he : EngineConsistent s) (hs : SetupsInRange s)
include he hs

/-- R199: the setup that start-up takes up is in range, and so is a run that it begins. -/
theorem startupRead {cause : ResetCause} (hc : s.startup = some cause) (ready : ReadyCause) :
    CapturesInRange (State.comeUp ready { s.takeUp s.image.loaded with startup := none }) := by
  have hstop := he.reloading (.inl (by rw [hc]; exact nofun))
  have taken := h.takeUp (he.units hstop) s.image.loaded
  refine (CapturesKept.comeUp ready _).captures ?_ ⟨taken.units, taken.records⟩
  show ∀ k : Fin 4, (s.takeUp s.image.loaded).setup.units[k].InRange
  rw [State.takeUp_setup]
  exact hs.loaded.units

theorem endRestart (hd : s.link.dispatcher = .executing .restarting) : CapturesInRange s.endRestart := by
  have hstop := he.reloading (.inr (.inl hd))
  have taken := h.takeUp (he.units hstop) s.image.loaded
  have cleared : CapturesInRange (s.takeUp s.image.loaded).clearRuntime := ⟨taken.units, taken.records⟩
  have up := CapturesKept.comeUp .restart (s.takeUp s.image.loaded).clearRuntime
  refine (up.trans (CapturesKept.link _ _)).captures ?_ cleared
  show ∀ k : Fin 4, (s.takeUp s.image.loaded).setup.units[k].InRange
  rw [State.takeUp_setup]
  exact hs.loaded.units

end CapturesInRange

theorem afterReset_capturesInRange (cause : ResetCause) (pins : ResetPins) (image : SetupImage) (queue : List Instr) :
    CapturesInRange (State.afterReset cause pins image queue) :=
  ⟨fun k busy => absurd (congrArg UnitState.phase (replicate_get clearedUnit k)) busy, nofun⟩

/-- Every command keeps the captures in range. -/
theorem exec_capturesInRange (c : Instr) {s t : State} (he : EngineConsistent s) (hs : SetupsInRange s)
    (h : CapturesInRange s) (e : exec c s = .next t) : CapturesInRange t := by
  have of_kept : ∀ {v : State}, CapturesKept s v → exec c s = .next v → CapturesInRange t := fun kept ev => by
    cases ev.symm.trans e
    exact kept.captures hs.working.units h
  cases c
  case hardReset cause pins => exact next_keeps (afterReset_capturesInRange cause pins s.image s.pending) e
  case startupSetupRead =>
    refine next_keeps ?_ e
    split
    · exact h.startupRead he hs (by assumption) _
    · exact h
  case restartSetupRead =>
    refine next_keeps ?_ e
    split
    · exact h.endRestart he hs (by assumption)
    · exact h
  case loadComplete =>
    refine next_keeps ?_ e
    split
    · exact h.endLoad he (by assumption)
    all_goals exact h
  case defaultSetup => exact next_keeps (h.serve _ (h.defaultRequest he)) e
  case setUnit => exact next_keeps (h.serve _ h.setUnitRequest) e
  case messageReceived bytes => exact of_kept (.link _ s) rfl
  case receiveTimeout periods => exact of_kept (.link _ s) rfl
  case stopBitError byte =>
    refine of_kept (v := if _ then _ else _) ?_ rfl
    split
    · exact .refl s
    · exact .link _ s
  case unknownKind => exact of_kept (onRequest_keeps (fun _ _ => .answer _ s) (.refl s)) rfl
  case replyPlaced =>
    refine next_keeps (P := CapturesInRange) ?_ e
    split
    · exact (CapturesKept.link _ s).captures hs.working.units h
    all_goals exact h
  case transmitComplete => exact of_kept (.link _ s) rfl
  case identify => exact of_kept (.serve_report _ identifyRequest_state s) rfl
  case status => exact of_kept (.serve _ .statusRequest s) rfl
  case run => exact of_kept (.serve _ .runRequest s) rfl
  case stop => exact of_kept (.serve _ .stopRequest s) rfl
  case restart =>
    refine of_kept (onRequest_keeps (P := CapturesKept s) (fun q _ => ?_) (.refl s)) rfl
    exact .restart q s
  case saveSetup =>
    refine of_kept (onRequest_keeps (P := CapturesKept s) (fun q _ => ?_) (.refl s)) rfl
    exact .saveSetup q s
  case saveComplete verified =>
    refine next_keeps (P := CapturesInRange) ?_ e
    split
    · exact (CapturesKept.endSave _ verified s).captures hs.working.units h
    all_goals exact h
  case loadSetup =>
    refine of_kept (onRequest_keeps (P := CapturesKept s) (fun q _ => ?_) (.refl s)) rfl
    exact .loadSetup q s
  case setAutorun => exact of_kept (.serve _ .autorunRequest s) rfl
  case setPort => exact of_kept (.serve _ .setPort s) rfl
  case getPort => exact of_kept (.serve_report _ getPort_state s) rfl
  case setMeasure => exact of_kept (.serve _ .setMeasure s) rfl
  case getMeasure => exact of_kept (.serve_report _ getMeasure_state s) rfl
  case setCondition => exact of_kept (.serve _ .setCondition s) rfl
  case getCondition => exact of_kept (.serve_report _ getCondition_state s) rfl
  case armCondition => exact of_kept (.serve _ (.conditionRequest condArm) s) rfl
  case disarmCondition => exact of_kept (.serve _ (.conditionRequest condDisarm) s) rfl
  case unlatchCondition => exact of_kept (.serve _ (.conditionRequest condUnlatch) s) rfl
  case setTimer => exact of_kept (.serve _ .setTimer s) rfl
  case getTimer => exact of_kept (.serve_report _ getTimer_state s) rfl
  case startTimer => exact of_kept (.serve _ (.timerRequest timerStart) s) rfl
  case stopTimer => exact of_kept (.serve _ (.timerRequest timerStop) s) rfl
  case resumeTimer => exact of_kept (.serve _ (.timerRequest timerResume) s) rfl
  case setBinding => exact of_kept (.serve _ .setBinding s) rfl
  case getBinding => exact of_kept (.serve_report _ getBinding_state s) rfl
  case fire => exact of_kept (.serve _ .fire s) rfl
  case setLine => exact of_kept (.serve _ .setLine s) rfl
  case getLines => exact of_kept (.serve_report _ getLines_state s) rfl
  case driveLine => exact of_kept (.serve _ .driveLine s) rfl
  case getUnit => exact of_kept (.serve_report _ getUnit_state s) rfl
  case armUnit => exact of_kept (.serve _ (.unitRequest .armRequest) s) rfl
  case triggerUnit => exact of_kept (.serve _ (.unitRequest .triggerRequest) s) rfl
  case abortUnit => exact of_kept (.serve _ (.unitRequest .abortRequest) s) rfl
  case listCaptures => exact of_kept (.serve_report _ listCaptures_state s) rfl
  case getCapture => exact of_kept (.serve_report _ getCapture_state s) rfl
  case readFrames => exact of_kept (.serve_report _ readFrames_state s) rfl
  case holdCapture => exact of_kept (.serve _ .holdCapture s) rfl
  case releaseCapture => exact of_kept (.serve _ .releaseCapture s) rfl
  case setStore => exact of_kept (.serve _ .setStore s) rfl
  case getStore => exact of_kept (.serve_report _ getStore_state s) rfl
  case firstSyncEdge edges => exact of_kept (.of_ite (.clockAll edges s)) rfl
  case frameBoundary edges => exact of_kept (.of_ite (.clockAll edges s)) rfl
  case timerExpire timer edges => exact of_kept (.of_ite (.clockAll edges s)) rfl
  case syncLost periods => exact of_kept (.quiet periods s) rfl
  case syncRegained edges => exact of_kept (.of_ite (.clockAll edges s)) rfl
  case take during =>
    change execTake during s = .next t at e
    unfold execTake at e
    split at e <;> cases e
    · exact (CapturesKept.workFrame _ during s).captures hs.working.units h
    · exact h
    · exact h
  case inputAccepted input periods => exact of_kept (.of_inputs (holdPin_only input periods s)) rfl
  case inputPinChange input level => exact of_kept (.of_inputs (samplePin_only input level s)) rfl

/-- Settles O11: no row but a reload writes a busy unit's setup, and each operation of a unit keeps its record in range. -/
theorem stepKeepsCapturesInRange : Obligations.StepKeepsCapturesInRange := by
  intro s t he hs _ h e
  unfold step at e
  split at e
  · cases e; exact h
  · rename_i c rest _
    exact exec_capturesInRange c (s := { s with pending := rest }) { he with } ⟨hs.working, hs.image, hs.copy⟩
      (h.stands rfl rfl rfl) e

end Sys2Proof.Machine

namespace Sys2Proof.Machine

/-! ### The requests of the capture units (R144) -/

/-- R144: while RUNNING a unit request acts on the unit that its byte names. -/
theorem unitRequest_running {s : State} (he : s.engine = .running) (act : Fin 4 → State → State × Answer) (k : Fin 4) :
    unitRequest act [BitVec.ofNat 8 k.val] s = act k s := by
  simp only [unitRequest, readIndex_ofNat 4 (by decide), he]

/-- R144, R177: the row of a unit request, served while RUNNING. -/
theorem serve_unitRequest {s : State} {kind : Byte} {k : Fin 4} (act : Fin 4 → State → State × Answer)
    (h : Serves s kind [BitVec.ofNat 8 k.val]) (he : s.engine = .running) :
    (.next (serve kind (unitRequest act) s) : Host.Outcome State Fault Refusal) =
      .next ((act k s).1.answer (act k s).2) := by
  rw [serve_serves _ h, unitRequest_running he]

theorem unitReport_of_phase {k : Fin 4} {s : State} {phase : UnitPhase} (h : s.units[k].phase = phase) :
    unitReport k s = (s, okay [codeOf UnitPhase.codes phase]) := by
  rw [unitReport, h]

/-! ### Arming (R122, R144, R150, R153) -/

/-- R122, R123: an arming is refused exactly when the pages of the ring are not free. -/
theorem tryArm_none {k : Fin 4} {s : State}
    (h : s.store.free.length < ringPages s.setup.units[k].mask s.setup.units[k].pre) : s.tryArm k = none := by
  unfold State.tryArm
  rw [claim_none.2 h]

/-- R122, R150, R153: an arming that is granted while RUNNING. -/
theorem tryArm_granted {k : Fin 4} {s : State} (he : s.engine = .running)
    (h : ringPages s.setup.units[k].mask s.setup.units[k].pre ≤ s.store.free.length) :
    s.tryArm k = some
      { s with
        units := put s.units k
          (armedUnit s.setup.units[k] (s.store.free.take (ringPages s.setup.units[k].mask s.setup.units[k].pre)))
        store := { s.store with
          free := s.store.free.drop (ringPages s.setup.units[k].mask s.setup.units[k].pre)
          low := if s.store.free.length - ringPages s.setup.units[k].mask s.setup.units[k].pre < s.setup.store.lowWater
            then .low else .normal }
        events :=
          if s.setup.store.lowWater ≤ s.store.free.length
              ∧ s.store.free.length - ringPages s.setup.units[k].mask s.setup.units[k].pre < s.setup.store.lowWater then
            insertId evStoreLow s.events
          else s.events } := by
  unfold State.tryArm
  rw [claim_granted h]
  simp only [he, true_and]
  rfl

/-- R122, R144: the code of an armed unit's state. -/
theorem armedUnit_code (setup : UnitSetup) (pages : List Page) :
    codeOf UnitPhase.codes (armedUnit setup pages).phase = if setup.pre = 0 then 2 else 1 := by
  rcases armedUnit_phase setup pages with ⟨zero, e⟩ | ⟨pos, e⟩ <;> rw [e]
  · rw [if_pos zero]; rfl
  · rw [if_neg (Nat.ne_of_gt pos)]; rfl

/-- Settles O49: by the state of the unit, and by the claim of its ring. -/
theorem armUnitClaimsItsRing : Obligations.ArmUnitClaimsItsRing := by
  rintro s k needed hserves he rfl
  have hexec : exec .armUnit s = .next ((armRequest k s).1.answer (armRequest k s).2) :=
    serve_unitRequest armRequest hserves he
  rw [hexec]
  unfold armRequest
  refine ⟨fun hbusy => ?_, fun hidle hfew => ?_, fun hidle hfree => ?_⟩
  · rw [if_pos hbusy]
    rfl
  · rw [if_neg (not_not.2 hidle), tryArm_none hfew]
  · rw [if_neg (not_not.2 hidle), tryArm_granted he hfree]
    dsimp only
    rw [unitReport_of_phase (congrArg UnitState.phase (put_get_self _ _ _)), armedUnit_code]
    rfl

/-! ### Triggering and aborting (R127 to R129, R134, R135) -/

/-- R127: an armed unit enters POST, and TRIGGERED is pending. -/
theorem triggerUnitBy_armed {s : State} {k : Fin 4} (h : s.units[k].phase = .filling ∨ s.units[k].phase = .armed)
    (source : Byte) (word : BitVec 32) (frame : Option FrameNumber) :
    s.triggerUnitBy k source word frame =
      (s.setUnitState k (triggered s.setup.units[k] source word frame s.units[k])).raise (evTriggered k) := by
  unfold State.triggerUnitBy
  rcases h with h | h <;> rw [h]

/-- R129. -/
theorem triggerUnitBy_post {s : State} {k : Fin 4} (h : s.units[k].phase = .post) (source : Byte) (word : BitVec 32)
    (frame : Option FrameNumber) :
    s.triggerUnitBy k source word frame = s.setUnitState k (retriggered s.setup.units[k] s.units[k]) := by
  unfold State.triggerUnitBy
  rw [h]

/-- R134. -/
theorem abortUnitBy_armed {s : State} {k : Fin 4} (h : s.units[k].phase = .filling ∨ s.units[k].phase = .armed) :
    s.abortUnitBy k = s.giveUp k := by
  unfold State.abortUnitBy
  rcases h with h | h <;> rw [h]

/-- R135. -/
theorem abortUnitBy_post {s : State} {k : Fin 4} (h : s.units[k].phase = .post) :
    s.abortUnitBy k = (s.flagUnit k fun f => { f with aborted := true }).closeCapture k := by
  unfold State.abortUnitBy
  rw [h]

/-- R134, R151, R153: an armed unit gives its pages back. -/
theorem giveUp_eq (k : Fin 4) (s : State) :
    s.giveUp k =
      { s with
        units := put s.units k clearedUnit
        store := { s.store with
          free := s.store.free ++ s.units[k].prePages
          low := if s.store.free.length + s.units[k].prePages.length < s.setup.store.lowWater then .low
            else .normal } } := by
  rw [← List.length_append]
  rfl

theorem busy_of_armed {phase : UnitPhase} (h : phase = .filling ∨ phase = .armed) : phase ≠ .idle := by
  rcases h with rfl | rfl <;> decide

theorem triggerRequest_idle {s : State} {k : Fin 4} (h : s.units[k].phase = .idle) :
    triggerRequest k s = (s, refusal .state) := if_pos h

/-- R144: TRIGGER_UNIT on a unit that is not IDLE leaves it in POST. -/
theorem triggerRequest_busy {s t : State} {k : Fin 4} (h : s.units[k].phase ≠ .idle)
    (acted : s.triggerUnitBy k 255 (conditionWord s.conditions) none = t) (hpost : t.units[k].phase = .post) :
    triggerRequest k s = (t, okay [3]) := by
  rw [triggerRequest, if_neg h, acted, unitReport_of_phase hpost]
  rfl

theorem abortRequest_idle {s : State} {k : Fin 4} (h : s.units[k].phase = .idle) :
    abortRequest k s = (s, refusal .state) := if_pos h

/-- R144: ABORT_UNIT leaves the unit IDLE. -/
theorem abortRequest_busy {s t : State} {k : Fin 4} (h : s.units[k].phase ≠ .idle) (acted : s.abortUnitBy k = t)
    (cleared : t.units = put s.units k clearedUnit) : abortRequest k s = (t, okay [0]) := by
  have hidle : t.units[k].phase = .idle := by rw [cleared, put_get_self]; rfl
  rw [abortRequest, if_neg h, acted, unitReport_of_phase hidle]
  rfl

/-- Settles O50: each request by the state of the unit. -/
theorem triggerAndAbortUnit : Obligations.TriggerAndAbortUnit := by
  constructor
  · rintro s k u setup hserves he rfl rfl
    have hexec : ∀ {out : State × Answer}, triggerRequest k s = out → exec .triggerUnit s = .next (out.1.answer out.2) := by
      rintro _ rfl
      exact serve_unitRequest triggerRequest hserves he
    refine ⟨fun hidle => hexec (triggerRequest_idle hidle), fun harmed => ?_, fun hpost hignore => ?_,
      fun hpost hextend => ?_⟩
    · refine hexec (triggerRequest_busy (busy_of_armed harmed) ?_ ?_)
      · rw [triggerUnitBy_armed harmed, State.raise_running _ (s.setUnitState k _) he]
        rfl
      · exact congrArg UnitState.phase (put_get_self _ _ _)
    · have busy : s.units[k].phase ≠ .idle := by rw [hpost]; decide
      refine hexec (triggerRequest_busy busy ?_ ?_)
      · rw [triggerUnitBy_post hpost, retriggered, hignore]
        rfl
      · exact (congrArg UnitState.phase (put_get_self _ _ _)).trans hpost
    · have busy : s.units[k].phase ≠ .idle := by rw [hpost]; decide
      refine hexec (triggerRequest_busy busy ?_ ?_)
      · rw [triggerUnitBy_post hpost, retriggered, hextend]
        rfl
      · exact (congrArg UnitState.phase (put_get_self _ _ _)).trans hpost
  · intro s k hserves he
    have hexec : ∀ {out : State × Answer}, abortRequest k s = out → exec .abortUnit s = .next (out.1.answer out.2) := by
      rintro _ rfl
      exact serve_unitRequest abortRequest hserves he
    refine ⟨fun hidle => hexec (abortRequest_idle hidle), fun harmed => ?_, fun hpost => ?_⟩
    · exact hexec (abortRequest_busy (busy_of_armed harmed) ((abortUnitBy_armed harmed).trans (giveUp_eq k s)) rfl)
    · have busy : s.units[k].phase ≠ .idle := by rw [hpost]; decide
      refine hexec (abortRequest_busy busy (abortUnitBy_post hpost) ?_)
      rw [closeCapture_units]
      exact put_put _ _ _ _

end Sys2Proof.Machine

namespace Sys2Proof.Machine

/-! ### The index takes, replaces or drops a record (R156) -/

theorem keepOrDrop_room {s : State} (room : s.store.index.length < 32) (r : CaptureRecord) :
    s.keepOrDrop r = (s.appendRecord r, true) := if_pos room

/-- R156: the index is full, and the policy or the held marks leave no record to replace. -/
theorem keepOrDrop_dropped {s : State} (full : 32 ≤ s.store.index.length)
    (kept : s.setup.store.policy = .keepOld ∨ ∀ x ∈ s.store.index, x.held = true) (r : CaptureRecord) :
    s.keepOrDrop r = (s.dropCapture r, false) := by
  have noRoom : ¬ s.store.index.length < Config.indexPlaces := Nat.not_lt.2 full
  unfold State.keepOrDrop
  rw [if_neg noRoom]
  split
  · rfl
  · rename_i hpolicy
    have held : ∀ x ∈ s.store.index, x.held = true := kept.resolve_left (by rw [hpolicy]; decide)
    have none : oldestUnheld s.store.index = none := List.find?_eq_none.2 fun x hx => by simp [held x hx]
    rw [none]

theorem oldestUnheld_split {before after : List CaptureRecord} {old : CaptureRecord} (free : old.held = false)
    (held : ∀ x ∈ before, x.held = true) : oldestUnheld (before ++ old :: after) = some old := by
  have none : before.find? (fun r => !r.held) = none := List.find?_eq_none.2 fun x hx => by simp [held x hx]
  rw [oldestUnheld, List.find?_append, none, Option.none_or, List.find?_cons_of_pos (by simp [free])]

/-- R155: the record behind held ones leaves the index, and those behind it close up. -/
theorem erase_split {before after : List CaptureRecord} {old : CaptureRecord} (free : old.held = false)
    (held : ∀ x ∈ before, x.held = true) : (before ++ old :: after).erase old = before ++ after := by
  have apart : old ∉ before := fun inside => by
    rw [held old inside] at free
    cases free
  rw [List.erase_append_right _ apart, List.erase_cons_head]

/-- R156: the index is full and the oldest record not held gives its place. -/
theorem keepOrDrop_replaced {s : State} {before after : List CaptureRecord} {old : CaptureRecord}
    (full : 32 ≤ s.store.index.length) (hpolicy : s.setup.store.policy = .replaceOld)
    (split : s.store.index = before ++ old :: after) (free : old.held = false) (held : ∀ x ∈ before, x.held = true)
    (r : CaptureRecord) :
    s.keepOrDrop r =
      (((s.removeRecord old).notify (.captureDropped .replaced old.id old.unit old.run)).appendRecord r, true) := by
  have noRoom : ¬ s.store.index.length < Config.indexPlaces := Nat.not_lt.2 full
  unfold State.keepOrDrop
  rw [if_neg noRoom, hpolicy, split, oldestUnheld_split free held]

/-! ### A close (R138) -/

theorem notify_link (n : Notice) (s : State) : (s.notify n).link = s.link.offerNotice n := rfl

/-- R157: the record that a close of unit `k` hands over, with the id that the index assigns. -/
def closedRecord (k : Fin 4) (s : State) : CaptureRecord := { captureRecord k s with id := s.store.assigned }

/-- R138, R157: the state in which the index decides on the record of unit `k`: the unit cleared, the id consumed. -/
def State.handingOver (k : Fin 4) (s : State) : State :=
  { s.setUnitState k clearedUnit with store := { s.store with nextId := nextFromOne s.store.assigned } }

/-- R138: the close of a capture that the index keeps. -/
theorem closeCapture_kept {k : Fin 4} {s t : State} (h : (s.handingOver k).keepOrDrop (closedRecord k s) = (t, true)) :
    s.closeCapture k =
      (t.raise (evClosed k)).notify (.captureClosed (closedRecord k s).id k s.runNumber (closedRecord k s).flags
        (closedRecord k s).triggerFrame (closedRecord k s).preCount (closedRecord k s).postCount) := by
  have handed : (s.setUnitState k clearedUnit).handOver (captureRecord k s) = (t, true, s.store.assigned) :=
    congrArg (fun out : State × Bool => (out.1, out.2, s.store.assigned)) h
  unfold State.closeCapture
  dsimp only
  rw [handed]
  rfl

/-- R138: the close of a capture that the index drops. -/
theorem closeCapture_dropped {k : Fin 4} {s t : State}
    (h : (s.handingOver k).keepOrDrop (closedRecord k s) = (t, false)) : s.closeCapture k = t.raise (evClosed k) := by
  have handed : (s.setUnitState k clearedUnit).handOver (captureRecord k s) = (t, false, s.store.assigned) :=
    congrArg (fun out : State × Bool => (out.1, out.2, s.store.assigned)) h
  unfold State.closeCapture
  dsimp only
  rw [handed]
  rfl

theorem closeCapture_store (k : Fin 4) (s : State) :
    (s.closeCapture k).store = ((s.handingOver k).keepOrDrop (closedRecord k s)).1.store := by
  obtain ⟨t, kept⟩ : ∃ t kept, (s.handingOver k).keepOrDrop (closedRecord k s) = (t, kept) := ⟨_, _, rfl⟩
  obtain ⟨kept, decided⟩ := kept
  cases kept with
  | true => rw [closeCapture_kept decided, decided, State.notify_store, State.raise_store]
  | false => rw [closeCapture_dropped decided, decided, State.raise_store]

/-- Settles O51: the record of the close, and the three ways of the index with it. -/
theorem closeHandsTheCaptureOver : Obligations.CloseHandsTheCaptureOver := by
  rintro s k u trigger r rfl htrigger hr
  have untaken : trigger = s.units[k].triggerFrame.getD s.untakenTrigger := by
    rw [htrigger, State.untakenTrigger]
    cases s.units[k].triggerFrame with
    | some f => rfl
    | none => cases s.lastTaken <;> rfl
  have record : r = closedRecord k s := by
    rw [hr, untaken, closedRecord, captureRecord]
    cases s.units[k].firstFrame <;> rfl
  subst record
  refine ⟨s.closeCapture k, rfl, closeCapture_units k s, closeCapture_events k s, ?_, ?_,
    (closeCapture_only k s).rest, fun room => ?_, fun full kept => ?_,
    fun before old after full hpolicy split free held => ?_⟩
  · rw [closeCapture_store, keepOrDrop_nextId]; rfl
  · exact closeCapture_mem k s
  · rw [closeCapture_kept (keepOrDrop_room (s := s.handingOver k) room _)]
    rw [State.notify_store, State.raise_store, notify_link, State.raise_link]
    exact ⟨rfl, rfl, rfl⟩
  · rw [closeCapture_dropped (keepOrDrop_dropped (s := s.handingOver k) full kept _), State.raise_store, State.raise_link]
    exact ⟨rfl, rfl, rfl⟩
  · rw [closeCapture_kept (keepOrDrop_replaced (s := s.handingOver k) full hpolicy split free held _)]
    rw [State.notify_store, State.raise_store, notify_link, State.raise_link]
    refine ⟨?_, rfl, rfl⟩
    show s.store.index.erase old ++ _ = _
    rw [split, erase_split free held]

end Sys2Proof.Machine

namespace Sys2Proof.Machine

/-! ### A page refused in POST (R132, R133, R141) -/

theorem handleFrame_post {s : State} {k : Fin 4} (h : s.units[k].phase = .post) (f : FrameNumber) :
    s.handleFrame k f = s.handlePost k f := by
  unfold State.handleFrame
  rw [h]

theorem needsPage_iff (setup : UnitSetup) (u : UnitState) :
    needsPage setup u = true ↔ u.postCount = u.postPages.length * framesPerPage setup.mask := decide_eq_true_iff

/-- R130 step 1: no page is open, and none is free. -/
theorem handleFrame_refused {s : State} {k : Fin 4} (h : s.units[k].phase = .post) (hfree : s.store.free = [])
    (needs : s.units[k].postCount = s.units[k].postPages.length * framesPerPage s.setup.units[k].mask) (f : FrameNumber) :
    s.handleFrame k f = s.pageRefused k f := by
  have refused : s.claim 1 = none := claim_none.2 (by rw [hfree]; exact Nat.one_pos)
  rw [handleFrame_post h, State.handlePost, if_pos ((needsPage_iff _ _).2 needs), refused]

theorem pageRefused_truncate {s : State} {k : Fin 4} (h : s.setup.units[k].full = .truncate) (f : FrameNumber) :
    s.pageRefused k f = ((s.flagUnit k fun g => { g with truncated := true }).closeCapture k).rearm k f := by
  unfold State.pageRefused
  rw [h]

theorem pageRefused_discard {s : State} {k : Fin 4} (h : s.setup.units[k].full = .discard) (f : FrameNumber) :
    s.pageRefused k f = (s.discardCapture k).rearm k f := by
  unfold State.pageRefused
  rw [h]

/-- R133: with no page free, a dropped capture's pages are the free pages. -/
theorem discardCapture_eq {s : State} {k : Fin 4} (he : s.engine = .running) (hfree : s.store.free = []) :
    s.discardCapture k =
      { s with
        units := put s.units k clearedUnit
        store := { s.store with
          free := s.units[k].prePages ++ s.units[k].postPages
          low := if s.units[k].prePages.length + s.units[k].postPages.length < s.setup.store.lowWater then .low
            else .normal }
        link := s.link.offerNotice (.captureDropped .storeFull 0 k s.runNumber)
        events := insertId (evClosed k) s.events } := by
  have low : lowState (s.store.free ++ s.units[k].pages).length s.setup.store.lowWater =
      if s.units[k].prePages.length + s.units[k].postPages.length < s.setup.store.lowWater then .low else .normal := by
    rw [hfree, List.nil_append, UnitState.pages, List.length_append]
    rfl
  rw [← low, ← List.nil_append (s.units[k].prePages ++ s.units[k].postPages), ← hfree]
  exact State.raise_running (evClosed k)
    (((s.setUnitState k clearedUnit).giveBack s.units[k].pages).notify (.captureDropped .storeFull 0 k s.runNumber)) he

/-- Settles O55: by the full policy, without auto-rearm and with it. -/
theorem refusedPageClosesOrDrops : Obligations.RefusedPageClosesOrDrops := by
  constructor
  · rintro s k f u rfl hpost he hfree hoff needs
    rw [handleFrame_refused hpost hfree needs]
    refine ⟨fun htruncate => ?_, fun hdiscard => ?_⟩
    · rw [pageRefused_truncate htruncate, rearm_off _ _ _ (by rw [State.closeCapture_setup]; exact hoff)]
      rfl
    · rw [pageRefused_discard hdiscard, discardCapture_eq he hfree]
      exact rearm_off _ _ _ hoff
  · rintro s k f u rfl hpost he hfree hon needs
    rw [handleFrame_refused hpost hfree needs]
    refine ⟨fun htruncate => ?_, fun hdiscard => ?_⟩
    · rw [pageRefused_truncate htruncate]
      exact rearm_armedOrReported _ _ _ (by rw [State.closeCapture_setup]; exact hon)
    · rw [pageRefused_discard hdiscard, discardCapture_eq he hfree]
      exact rearm_armedOrReported _ _ _ hon

/-! ### The units' work of a taken frame (R136, R152) -/

/-- R128: the take fixes the trigger frame of a capture triggered by request. -/
theorem fixTrigger_eq (frame : FrameNumber) (u : UnitState) :
    u.fixTrigger frame =
      if u.phase = .post ∧ u.triggerFrame = none then
        { u with triggerFrame := some frame, firstFrame := if u.preCount = 0 then some frame else u.firstFrame }
      else u := by
  unfold UnitState.fixTrigger
  split <;> simp [*]

/-- What the units find of the taken frame, the notices offered. -/
theorem notifiedFrame_keeps {α : Type} (field : State → α)
    (conditions : ∀ {s t : State}, OnlyConditions s t → field t = field s)
    (levels : ∀ {s t : State}, OnlyLevels s t → field t = field s)
    (timers : ∀ {s t : State}, OnlyTimers s t → field t = field s)
    (link : ∀ {s t : State}, OnlyLink s t → field t = field s)
    (f : HeldFrame) (s : State) : field (s.notifiedFrame f) = field (s.evaluatedFrame f) :=
  (link (notifiedFrame_only f s)).trans ((timers (timerActions_only _ _ _)).trans
    ((levels (lineActions_only _ _)).trans (conditions (conditionActions_only _ _))))

/-- R127: the lowest-numbered fired binding that gave the TRIGGER gives its source. -/
theorem triggerSource_lowest {bs : Vector Binding 48} {fired : List (Fin 48)} (rising : fired.Pairwise (· < ·)) {k : Fin 4}
    {b : Fin 48} (hb : b ∈ fired) (haction : bs[b].action = .unitTrigger) (htarget : bs[b].target = k.val)
    (lowest : ∀ j ∈ fired, bs[j].action = .unitTrigger → bs[j].target = k.val → b ≤ j) :
    triggerSource bs fired k = BitVec.ofNat 8 bs[b].source.val := by
  have found : fired.find? (fun j => decide (bs[j].action = .unitTrigger ∧ bs[j].target = k.val)) = some b := by
    obtain ⟨before, after, rfl⟩ := List.append_of_mem hb
    refine List.find?_eq_some_iff_append.2 ⟨decide_eq_true ⟨haction, htarget⟩, before, after, rfl, fun j hj => ?_⟩
    have below : j < b := (List.pairwise_append.1 rising).2.2 j hj b List.mem_cons_self
    rw [Bool.not_eq_true', decide_eq_false_iff_not]
    rintro ⟨ja, jt⟩
    exact absurd (lowest j (List.mem_append_left _ hj) ja jt) (Fin.not_le.2 below)
  rw [triggerSource, found]

section UnitAction

variable {v : State} {fired : List (Fin 48)} {k : Fin 4} (frame : FrameNumber) (word : BitVec 32)

theorem unitAction_abort (h : Reaches v fired .unitAbort k.val) : v.unitAction fired frame word k = v.abortUnitBy k := by
  unfold State.unitAction
  rw [winner_first v fired _ _ _ _ h]

theorem unitAction_trigger (habort : ¬ Reaches v fired .unitAbort k.val) (h : Reaches v fired .unitTrigger k.val) :
    v.unitAction fired frame word k =
      v.triggerUnitBy k (triggerSource v.setup.bindings fired k) word (some frame) := by
  unfold State.unitAction
  rw [winner_second v fired _ _ _ _ habort h]

theorem unitAction_arm (habort : ¬ Reaches v fired .unitAbort k.val) (htrigger : ¬ Reaches v fired .unitTrigger k.val)
    (h : Reaches v fired .unitArm k.val) : v.unitAction fired frame word k = v.armUnitBy k .action frame := by
  unfold State.unitAction
  rw [winner_third v fired _ _ _ _ habort htrigger h]

theorem unitAction_none (habort : ¬ Reaches v fired .unitAbort k.val) (htrigger : ¬ Reaches v fired .unitTrigger k.val)
    (harm : ¬ Reaches v fired .unitArm k.val) : v.unitAction fired frame word k = v := by
  unfold State.unitAction
  rw [winner_none v fired _ _ _ _ habort htrigger harm]

end UnitAction

/-- R95: which actions reach a target depends on the bindings alone. -/
theorem reaches_congr {s v : State} (h : v.setup = s.setup) (fired : List (Fin 48)) (a : Action) (target : Nat) :
    Reaches v fired a target ↔ Reaches s fired a target := by
  rw [Reaches, Reaches, h]

/-- Settles O56: the units work one after the other on the notified frame, and each by the action that wins at it. -/
theorem unitAppliesTheWinningAction : Obligations.UnitAppliesTheWinningAction := by
  intro s f work he hh hwork
  refine ⟨⟨s.notifiedFrame f, ?worked, ?store, ?setup, ?engine, ?run, ?taken, ?lanes, fun k => ?units⟩,
    fun k v acted hsetup hacted => ?_⟩
  case worked =>
    have turn : State.unitWork (s.firedAt f) f.number (conditionWord (s.conditionsAt f)) = fun v k => work k v := by
      funext v k
      exact (hwork k v).symm
    refine (execTake_held [] s f he hh).trans (congrArg _ ?_)
    rw [workFrame_nil_notified, turn]
    rfl
  case store => exact notifiedFrame_keeps State.store (·.store) (·.store) (·.store) (·.store) f s
  case setup => exact notifiedFrame_keeps State.setup (·.setup) (·.setup) (·.setup) (·.setup) f s
  case engine => exact (notifiedFrame_keeps State.engine (·.engine) (·.engine) (·.engine) (·.engine) f s).trans he
  case run => exact notifiedFrame_keeps State.runNumber (·.runNumber) (·.runNumber) (·.runNumber) (·.runNumber) f s
  case taken => exact notifiedFrame_keeps State.lastTaken (·.lastTaken) (·.lastTaken) (·.lastTaken) (·.lastTaken) f s
  case lanes => exact notifiedFrame_keeps State.lanes (·.lanes) (·.lanes) (·.lanes) (·.lanes) f s
  case units =>
    rw [notifiedFrame_keeps State.units (·.units) (·.units) (·.units) (·.units) f s, ← fixTrigger_eq]
    exact tab_get _ k
  · subst hacted
    simp only [← reaches_congr hsetup]
    refine ⟨fun habort => unitAction_abort _ _ habort, fun b hb habort ha ht lowest => ?_,
      fun habort htrigger harm => ?_, fun habort htrigger harm => unitAction_none _ _ habort htrigger harm⟩
    · have reached : Reaches v (s.firedAt f) .unitTrigger k.val := (reaches_congr hsetup _ _ _).2 ⟨b, hb, ha, ht⟩
      rw [unitAction_trigger _ _ habort reached, hsetup,
        triggerSource_lowest (fired := s.firedAt f) (firedBindings_rising _ _ _) hb ha ht lowest]
    · rw [unitAction_arm _ _ habort htrigger harm]
      exact armUnitBy_armedOrReported _ _ _ _

end Sys2Proof.Machine

namespace Sys2Proof.Machine

/-! ### A frame written in the store, and read back (R119, R160) -/

theorem writeFrame_mem (pg : Page) (pos : Nat) (mask : BitVec 16) (s : State) :
    (s.writeFrame pg pos mask).store.mem =
      Memory.writeAll s.store.mem (frameAddress pg (laneCount mask) pos) (selectedLanes mask s.lanes) := rfl

section WriteFrame

variable {s : State} (canonical : MemoryCanonical s) (pg : Page) (pos : Nat) (mask : BitVec 16)
include canonical

/-- A frame is written at its place and nowhere else. -/
theorem writeFrame_read_outside {x : Nat}
    (outside : x < frameAddress pg (laneCount mask) pos ∨ frameAddress pg (laneCount mask) pos + laneCount mask ≤ x) :
    Memory.read (s.writeFrame pg pos mask).store.mem x = Memory.read s.store.mem x := by
  rw [writeFrame_mem]
  refine Memory.read_writeAll_outside _ _ _ _ canonical ?_
  rw [selectedLanes_length]
  omega

/-- A frame is read back as it was written. -/
theorem writeFrame_readAll :
    Memory.readAll (s.writeFrame pg pos mask).store.mem (frameAddress pg (laneCount mask) pos) (laneCount mask) =
      selectedLanes mask s.lanes := by
  have readBack := Memory.readAll_writeAll s.store.mem (frameAddress pg (laneCount mask) pos) (selectedLanes mask s.lanes)
    canonical
  rwa [selectedLanes_length] at readBack

end WriteFrame

/-- R139, R160: a frame of the pre part lies at a ring place. -/
theorem frameAt_pre {t : Store} {r : CaptureRecord} {k : Nat} {pg : Page} (h : k < r.preCount)
    (page : r.pages[r.ringPlace k / framesPerPage r.mask]? = some pg) :
    t.frameAt r k =
      Memory.readAll t.mem (frameAddress pg (laneCount r.mask) (r.ringPlace k % framesPerPage r.mask)) (laneCount r.mask) := by
  rw [Store.frameAt, CaptureRecord.locate, if_pos h, page]

/-- R160: a frame of the post part lies behind the ring's pages. -/
theorem frameAt_post {t : Store} {r : CaptureRecord} {j : Nat} {pg : Page}
    (page : r.pages[ringPages r.mask r.pre + j / framesPerPage r.mask]? = some pg) :
    t.frameAt r (r.preCount + j) =
      Memory.readAll t.mem (frameAddress pg (laneCount r.mask) (j % framesPerPage r.mask)) (laneCount r.mask) := by
  have behind : ¬ r.preCount + j < r.preCount := Nat.not_lt.2 (Nat.le_add_right _ _)
  rw [Store.frameAt, CaptureRecord.locate, if_neg behind, Nat.add_sub_cancel_left, page]

/-! ### The gap check of a post frame (R131) -/

theorem noteGap_follows {f : FrameNumber} {u : UnitState} (h : u.lastStored = none ∨ u.lastStored = some (f - 1)) :
    noteGap f u = u := by
  have follows : gapBefore f u.lastStored = false := by
    rcases h with e | e <;> rw [e]
    · rfl
    · simp [gapBefore]
  rw [noteGap, if_neg (by rw [follows]; decide)]

theorem noteGap_gap {f l : FrameNumber} {u : UnitState} (h : u.lastStored = some l) (gap : f ≠ l + 1) :
    noteGap f u =
      if u.gaps.length < 8 then
        { u with gaps := u.gaps ++ [{ offset := u.preCount + u.postCount, missing := missingCount f u.lastStored }] }
      else { u with flags := { u.flags with gapsOverflowed := true } } := by
  have noted : gapBefore f u.lastStored = true := by
    rw [h]
    exact decide_eq_true gap
  exact if_pos noted

/-! ### A post frame stored (R130) -/

section PostUnit

variable (f : FrameNumber) (u : UnitState)

@[simp] theorem postUnit_phase : (postUnit f u).phase = u.phase := by
  obtain ⟨gaps, flags, e⟩ := postUnit_eq f u
  rw [e]

@[simp] theorem postUnit_prePages : (postUnit f u).prePages = u.prePages := by
  obtain ⟨gaps, flags, e⟩ := postUnit_eq f u
  rw [e]

@[simp] theorem postUnit_postPages : (postUnit f u).postPages = u.postPages := by
  obtain ⟨gaps, flags, e⟩ := postUnit_eq f u
  rw [e]

@[simp] theorem postUnit_preCount : (postUnit f u).preCount = u.preCount := by
  obtain ⟨gaps, flags, e⟩ := postUnit_eq f u
  rw [e]

@[simp] theorem postUnit_triggerFrame : (postUnit f u).triggerFrame = u.triggerFrame := by
  obtain ⟨gaps, flags, e⟩ := postUnit_eq f u
  rw [e]

@[simp] theorem postUnit_firstFrame : (postUnit f u).firstFrame = u.firstFrame := by
  obtain ⟨gaps, flags, e⟩ := postUnit_eq f u
  rw [e]

end PostUnit

/-- R130 step 1: with room in the open page the frame is stored there. -/
theorem handleFrame_room {s : State} {k : Fin 4} (hpost : s.units[k].phase = .post)
    (room : s.units[k].postCount < s.units[k].postPages.length * framesPerPage s.setup.units[k].mask) (f : FrameNumber) :
    s.handleFrame k f = s.storePost k f := by
  rw [handleFrame_post hpost, State.handlePost, if_neg (mt (needsPage_iff _ _).1 (Nat.ne_of_lt room))]

/-- R130 step 1: a unit's record written that has a page open with room. -/
theorem handleFrame_opened {s : State} {k : Fin 4} {u : UnitState} (hpost : u.phase = .post)
    (room : u.postCount < u.postPages.length * framesPerPage s.setup.units[k].mask) (f : FrameNumber) :
    (s.setUnitState k u).handleFrame k f = (s.setUnitState k u).storePost k f := by
  have written : (s.setUnitState k u).units[k] = u := put_get_self _ _ _
  exact handleFrame_room (by rw [written]; exact hpost) (by rw [written]; exact room) f

/-- R130: the frame is written at the next frame position of the open page. -/
theorem postStored_eq {s : State} {k : Fin 4} {pg : Page}
    (page : s.units[k].postPages[s.units[k].postCount / framesPerPage s.setup.units[k].mask]? = some pg) (f : FrameNumber) :
    s.postStored k f =
      State.setUnitState k (postUnit f s.units[k])
        (s.writeFrame pg (s.units[k].postCount % framesPerPage s.setup.units[k].mask) s.setup.units[k].mask) := by
  rw [State.postStored, page, storeAt_some]

theorem postStored_unit (k : Fin 4) (f : FrameNumber) (s : State) : (s.postStored k f).units[k] = postUnit f s.units[k] :=
  put_get_self _ _ _

theorem postStored_others {k j : Fin 4} (h : j ≠ k) (f : FrameNumber) (s : State) :
    (s.postStored k f).units[j] = s.units[j] := by
  show (put (s.storeAt _ _ _).units k _)[j] = _
  rw [storeAt_units, put_get_ne _ _ _ _ h]

@[simp] theorem postStored_setup (k : Fin 4) (f : FrameNumber) (s : State) : (s.postStored k f).setup = s.setup :=
  storeAt_setup _ _ _ s

section PostStored

variable {s : State} {k : Fin 4} {pg : Page} (canonical : MemoryCanonical s)
  (page : s.units[k].postPages[s.units[k].postCount / framesPerPage s.setup.units[k].mask]? = some pg) (f : FrameNumber)
include page

/-- Of the state but the units and the store nothing changes, and of the store only the words. -/
theorem postStored_rest :
    { s.postStored k f with units := s.units, store := s.store } = s
      ∧ { (s.postStored k f).store with mem := s.store.mem } = s.store := by
  rw [postStored_eq page]
  exact ⟨rfl, rfl⟩

include canonical

theorem postStored_read_outside {x : Nat}
    (outside : x < frameAddress pg (laneCount s.setup.units[k].mask)
          (s.units[k].postCount % framesPerPage s.setup.units[k].mask)
        ∨ frameAddress pg (laneCount s.setup.units[k].mask) (s.units[k].postCount % framesPerPage s.setup.units[k].mask)
          + laneCount s.setup.units[k].mask ≤ x) :
    Memory.read (s.postStored k f).store.mem x = Memory.read s.store.mem x := by
  rw [postStored_eq page]
  exact writeFrame_read_outside canonical _ _ _ outside

theorem postStored_readAll :
    Memory.readAll (s.postStored k f).store.mem
        (frameAddress pg (laneCount s.setup.units[k].mask) (s.units[k].postCount % framesPerPage s.setup.units[k].mask))
        (laneCount s.setup.units[k].mask) =
      selectedLanes s.setup.units[k].mask s.lanes := by
  rw [postStored_eq page]
  exact writeFrame_readAll canonical _ _ _

/-- R160: the record of a capture whose post frame is stored reads it at its offset. -/
theorem postStored_frameAt
    (ring : s.units[k].prePages.length = ringPages s.setup.units[k].mask s.setup.units[k].pre) :
    (s.postStored k f).store.frameAt (captureRecord k (s.postStored k f)) (s.units[k].preCount + s.units[k].postCount) =
      selectedLanes s.setup.units[k].mask s.lanes := by
  have unit := postStored_unit k f s
  have mask : (captureRecord k (s.postStored k f)).mask = s.setup.units[k].mask := by
    rw [← postStored_setup k f s]
    rfl
  have pre : (captureRecord k (s.postStored k f)).pre = s.setup.units[k].pre := by
    rw [← postStored_setup k f s]
    rfl
  have preCount : (captureRecord k (s.postStored k f)).preCount = s.units[k].preCount := by
    rw [← postUnit_preCount f, ← unit]
    rfl
  have pages : (captureRecord k (s.postStored k f)).pages = s.units[k].prePages ++ s.units[k].postPages := by
    rw [← postUnit_prePages f, ← postUnit_postPages f, ← unit]
    rfl
  have found : (captureRecord k (s.postStored k f)).pages[ringPages (captureRecord k (s.postStored k f)).mask
      (captureRecord k (s.postStored k f)).pre
        + s.units[k].postCount / framesPerPage (captureRecord k (s.postStored k f)).mask]? = some pg := by
    rw [mask, pre, pages, ← ring, List.getElem?_append_right (Nat.le_add_right _ _), Nat.add_sub_cancel_left, page]
  rw [← preCount, frameAt_post found, mask, postStored_readAll canonical page f]

end PostStored

/-- R130 step 1, R150: a frame that needs a page and gets it finds a page with room. -/
theorem handleFrame_claims {s : State} {k : Fin 4} {pg : Page} {rest : List Page} (hpost : s.units[k].phase = .post)
    (hmask : s.setup.units[k].mask ≠ 0)
    (needs : s.units[k].postCount = s.units[k].postPages.length * framesPerPage s.setup.units[k].mask)
    (hfree : s.store.free = pg :: rest) (f : FrameNumber) :
    s.handleFrame k f = State.handleFrame k f
      { s with
        units := put s.units k { s.units[k] with postPages := s.units[k].postPages ++ [pg] }
        store := { s.store with
          free := rest, low := if rest.length < s.setup.store.lowWater then .low else .normal }
        events :=
          if s.engine = .running ∧ s.setup.store.lowWater ≤ rest.length + 1 ∧ rest.length < s.setup.store.lowWater then
            insertId evStoreLow s.events
          else s.events } := by
  obtain ⟨t, claimed, granted⟩ : ∃ t : State,
      t = { s with
        store := { s.store with
          free := rest, low := if rest.length < s.setup.store.lowWater then .low else .normal }
        events :=
          if s.engine = .running ∧ s.setup.store.lowWater ≤ rest.length + 1 ∧ rest.length < s.setup.store.lowWater then
            insertId evStoreLow s.events
          else s.events }
      ∧ s.claim 1 = some ([pg], t) := by
    refine ⟨_, rfl, ?_⟩
    rw [claim_granted (by rw [hfree]; exact Nat.succ_pos _), hfree, List.length_cons, Nat.add_sub_cancel]
    rfl
  have setup : t.setup = s.setup := by rw [claimed]
  have room : s.units[k].postCount < (s.units[k].postPages ++ [pg]).length * framesPerPage t.setup.units[k].mask := by
    have pos := framesPerPage_pos hmask
    rw [setup, List.length_append, Nat.add_mul, needs]
    exact Nat.lt_add_of_pos_right (Nat.mul_pos Nat.one_pos pos)
  rw [handleFrame_post hpost, State.handlePost, if_pos ((needsPage_iff _ _).2 needs), granted]
  refine (handleFrame_opened (u := { s.units[k] with postPages := s.units[k].postPages ++ [pg] }) hpost room f).symm.trans ?_
  rw [claimed]
  rfl

/-- Settles O54: with room and post frames to come; with a page claimed; with the last post frame. -/
theorem postFrameIsStored : Obligations.PostFrameIsStored := by
  refine ⟨?_, ?_, ?_⟩
  · rintro s k f u setup pg a canonical rfl rfl hpost more - - ring room page rfl
    have stays : ¬ s.units[k].remaining - 1 = 0 := by omega
    obtain ⟨rest, store⟩ := postStored_rest page f
    have stored : s.handleFrame k f = s.postStored k f := by
      rw [handleFrame_room hpost room, storePost_eq, if_neg stays]
    refine ⟨s.postStored k f, stored.symm, fun x => postStored_read_outside canonical page f,
      postStored_readAll canonical page f, rest, store, postStored_frameAt canonical page f ring, ?_⟩
    rw [postStored_unit]
    refine ⟨rfl, rfl, rfl, (postUnit_phase _ _).trans hpost, fun follows => ?_, fun l last gap few => ?_,
      fun l last gap many => ?_, fun j h => postStored_others h f s⟩
    · rw [postUnit, noteGap_follows follows]
      exact ⟨rfl, rfl⟩
    · rw [postUnit, noteGap_gap last gap, if_pos few, last]
      exact ⟨rfl, rfl⟩
    · rw [postUnit, noteGap_gap last gap, if_neg (Nat.not_lt.2 many)]
      exact ⟨rfl, rfl⟩
  · rintro s k f u pg rest rfl hpost hmask needs hfree
    exact handleFrame_claims hpost hmask needs hfree f
  · rintro s k f u setup pg a canonical rfl rfl hpost last room page rfl
    have closes : s.units[k].remaining - 1 = 0 := by omega
    obtain ⟨rest, store⟩ := postStored_rest page f
    have closed : s.handleFrame k f = ((s.postStored k f).closeCapture k).rearm k f := by
      rw [handleFrame_room hpost room, storePost_eq, if_pos closes]
    have setup : ((s.postStored k f).closeCapture k).setup = s.setup := by
      rw [State.closeCapture_setup, postStored_setup]
    refine ⟨s.postStored k f, rest, store, fun x => postStored_read_outside canonical page f,
      postStored_readAll canonical page f, ?_⟩
    rw [postStored_unit, closed]
    refine ⟨rfl, closes, rfl, postUnit_prePages _ _, postUnit_postPages _ _, postUnit_preCount _ _,
      postUnit_triggerFrame _ _, postUnit_firstFrame _ _, fun j h => postStored_others h f s, fun off => ?_, fun on => ?_⟩
    · exact rearm_off _ _ _ (by rw [setup]; exact off)
    · exact rearm_armedOrReported _ _ _ (by rw [setup]; exact on)

end Sys2Proof.Machine

namespace Sys2Proof.Machine

/-! ### Ring places and their pages (R119, R125, R139) -/

/-- R119: the frames of a page fit in it. -/
theorem framesPerPage_fit (mask : BitVec 16) : framesPerPage mask * laneCount mask ≤ Config.pageWords :=
  Nat.div_mul_le_self _ _

/-- R119: a ring place lies in one of the ring's pages. -/
theorem place_page_lt {mask : BitVec 16} {pre place : Nat} (fpp : 0 < framesPerPage mask) (h : place < pre) :
    place / framesPerPage mask < ringPages mask pre := by
  have below := Nat.div_mul_le_self place (framesPerPage mask)
  refine (Nat.le_div_iff_mul_le fpp).2 ?_
  rw [Nat.succ_mul]
  omega

/-- R119: two frame positions, of one page or of two, share no word. -/
theorem frames_apart {mask : BitVec 16} {p q : Page} {i j : Nat} (hi : i < framesPerPage mask) (hj : j < framesPerPage mask)
    (differ : p ≠ q ∨ i ≠ j) :
    frameAddress p (laneCount mask) i + laneCount mask ≤ frameAddress q (laneCount mask) j
      ∨ frameAddress q (laneCount mask) j + laneCount mask ≤ frameAddress p (laneCount mask) i := by
  have next : ∀ {a b : Nat}, a < b → a * laneCount mask + laneCount mask ≤ b * laneCount mask := fun {a b} h => by
    rw [← Nat.succ_mul]
    exact Nat.mul_le_mul_right _ h
  have fit : framesPerPage mask * laneCount mask ≤ 512 := framesPerPage_fit mask
  have iFits := (next hi).trans fit
  have jFits := (next hj).trans fit
  unfold frameAddress Config.pageWords
  rcases Nat.lt_trichotomy p.val q.val with below | same | above
  · left; omega
  · have positions : i ≠ j := differ.resolve_left fun ne => ne (Fin.ext same)
    rw [same]
    rcases Nat.lt_or_gt_of_ne positions with less | more
    · have := next less
      left; omega
    · have := next more
      right; omega
  · right; omega

/-- Two ring places differ in their page or in their position in it. -/
theorem places_differ {pages : List Page} {fpp p q : Nat} {pp pq : Page} (nodup : pages.Nodup) (h : p ≠ q)
    (hp : pages[p / fpp]? = some pp) (hq : pages[q / fpp]? = some pq) : pp ≠ pq ∨ p % fpp ≠ q % fpp := by
  by_contra both
  obtain ⟨samePage, samePosition⟩ := not_or.1 both
  have inside : p / fpp < pages.length := (List.getElem?_eq_some_iff.1 hp).1
  have pageIndex : p / fpp = q / fpp := by
    refine (List.getElem?_inj inside nodup).1 ?_
    rw [hp, hq, not_not.1 samePage]
  exact h (by rw [← Nat.div_add_mod p fpp, ← Nat.div_add_mod q fpp, pageIndex, not_not.1 samePosition])

/-! ### A history frame stored (R125, R126) -/

theorem handleFrame_armed {s : State} {k : Fin 4} (h : s.units[k].phase = .filling ∨ s.units[k].phase = .armed)
    (f : FrameNumber) : s.handleFrame k f = s.storeHistory k f := by
  unfold State.handleFrame
  rcases h with h | h <;> rw [h]

/-- R125: the frame is written at the ring place that the ring head names. -/
theorem handleFrame_history {s : State} {k : Fin 4} {pg : Page}
    (h : s.units[k].phase = .filling ∨ s.units[k].phase = .armed) (hpre : 0 < s.setup.units[k].pre)
    (page : s.units[k].prePages[s.units[k].ringHead / framesPerPage s.setup.units[k].mask]? = some pg) (f : FrameNumber) :
    s.handleFrame k f =
      State.setUnitState k (historyUnit s.setup.units[k].pre f s.units[k])
        (s.writeFrame pg (s.units[k].ringHead % framesPerPage s.setup.units[k].mask) s.setup.units[k].mask) := by
  rw [handleFrame_armed h, storeHistory_eq (Nat.ne_of_gt hpre), page, storeAt_some]

/-- R125: the history count after a frame. -/
def countAfter (pre count : Nat) : Nat := if count = pre then pre else count + 1

theorem historyUnit_eq (pre : Nat) (f : FrameNumber) (u : UnitState) :
    historyUnit pre f u =
      { u with
        phase := if countAfter pre u.historyCount = pre then .armed else u.phase
        historyCount := countAfter pre u.historyCount
        ringHead := (u.ringHead + 1) % pre
        ringFrames := if u.ringHead < u.ringFrames.length then u.ringFrames.set u.ringHead f else u.ringFrames ++ [f]
        lastStored := some f
        flags := { u.flags with preGap := u.flags.preGap || gapBefore f u.lastStored } } := by
  have count : (if u.historyCount = pre then u.historyCount else u.historyCount + 1) = countAfter pre u.historyCount := by
    unfold countAfter
    split
    · assumption
    · rfl
  unfold historyUnit
  rw [count]
  rfl

/-- R139: after a history frame the last pre offset names the place that it was written at. -/
theorem newest_place {pre head count : Nat} (hhead : head < pre) (hcount : count ≤ pre) :
    ((head + 1) % pre + pre - countAfter pre count + (countAfter pre count - 1)) % pre = head := by
  have bounds : 1 ≤ countAfter pre count ∧ countAfter pre count ≤ pre := by
    unfold countAfter
    split <;> omega
  have total : (head + 1) % pre + pre - countAfter pre count + (countAfter pre count - 1) = (head + 1) % pre + (pre - 1) := by
    omega
  rw [total, Nat.mod_add_mod, show head + 1 + (pre - 1) = head + pre by omega, Nat.add_mod_right, Nat.mod_eq_of_lt hhead]

/-- R139: an earlier offset names the place it named before, one offset later when the oldest frame was overwritten, and
not the place of the new frame. -/
theorem earlier_place {pre head count j : Nat} (hhead : head < pre) (hcount : count ≤ pre)
    (filling : count < pre → head = count) (hj : j + 1 < countAfter pre count) :
    ((head + 1) % pre + pre - countAfter pre count + j) % pre
        = (head + pre - count + (j + (count + 1 - countAfter pre count))) % pre
      ∧ ((head + 1) % pre + pre - countAfter pre count + j) % pre ≠ head := by
  unfold countAfter at hj ⊢
  by_cases full : count = pre
  · rw [if_pos full] at hj ⊢
    subst full
    rw [Nat.add_sub_cancel, Nat.add_sub_cancel, Nat.mod_add_mod, Nat.add_sub_cancel_left]
    refine ⟨by rw [Nat.add_assoc, Nat.add_comm 1 j], fun same => ?_⟩
    rcases Nat.lt_or_ge (head + 1 + j) count with low | high
    · rw [Nat.mod_eq_of_lt low] at same
      omega
    · rw [Nat.mod_eq_sub_mod high, Nat.mod_eq_of_lt (by omega)] at same
      omega
  · rw [if_neg full] at hj ⊢
    have atCount : head = count := filling (by omega)
    subst atCount
    have before : (head + pre - head + (j + (head + 1 - (head + 1)))) % pre = j := by
      rw [show head + pre - head + (j + (head + 1 - (head + 1))) = j + pre by omega, Nat.add_mod_right,
        Nat.mod_eq_of_lt (by omega)]
    have after : ((head + 1) % pre + pre - (head + 1) + j) % pre = j := by
      rcases Nat.lt_or_ge (head + 1) pre with room | last
      · rw [Nat.mod_eq_of_lt room, show head + 1 + pre - (head + 1) + j = j + pre by omega, Nat.add_mod_right,
          Nat.mod_eq_of_lt (by omega)]
      · rw [show head + 1 = pre by omega, Nat.mod_self, show 0 + pre - pre + j = j by omega, Nat.mod_eq_of_lt (by omega)]
    rw [before, after]
    exact ⟨rfl, by omega⟩

/-! ### The ring read back (R139, R160) -/

/-- R139: the record of a unit's capture, its ring read from `head` with `count` frames before the trigger. -/
def State.ringRecord (k : Fin 4) (head count : Nat) (s : State) : CaptureRecord :=
  { captureRecord k s with preCount := count, ringHead := head }

/-- R139: where the frames of a ring read from `head` lie. -/
theorem ringRecord_frameAt {s : State} {k : Fin 4} {head count i place : Nat} {pg : Page} (t : Store) (h : i < count)
    (hplace : (head + s.setup.units[k].pre - count + i) % s.setup.units[k].pre = place)
    (page : s.units[k].prePages[place / framesPerPage s.setup.units[k].mask]? = some pg) :
    t.frameAt (s.ringRecord k head count) i =
      Memory.readAll t.mem (frameAddress pg (laneCount s.setup.units[k].mask) (place % framesPerPage s.setup.units[k].mask))
        (laneCount s.setup.units[k].mask) := by
  subst hplace
  have inside := (List.getElem?_eq_some_iff.1 page).1
  have found : s.units[k].pages[(head + s.setup.units[k].pre - count + i) % s.setup.units[k].pre
      / framesPerPage s.setup.units[k].mask]? = some pg := by
    rw [UnitState.pages, List.getElem?_append_left inside, page]
  exact frameAt_pre (r := s.ringRecord k head count) h found

/-- R125: the state after a history frame whose page is `pg`. -/
def State.historyStored (k : Fin 4) (f : FrameNumber) (pg : Page) (s : State) : State :=
  State.setUnitState k (historyUnit s.setup.units[k].pre f s.units[k])
    (s.writeFrame pg (s.units[k].ringHead % framesPerPage s.setup.units[k].mask) s.setup.units[k].mask)

/-- A capture's frames after a history frame: the ring's pages stay, and its head moves on. -/
theorem historyStored_frameAt (k : Fin 4) (f : FrameNumber) (pg : Page) (s : State) (count i : Nat) :
    (s.historyStored k f pg).store.frameAt { captureRecord k (s.historyStored k f pg) with preCount := count } i =
      (s.historyStored k f pg).store.frameAt
        (s.ringRecord k ((s.units[k].ringHead + 1) % s.setup.units[k].pre) count) i := by
  have unit : (s.historyStored k f pg).units[k] = historyUnit s.setup.units[k].pre f s.units[k] := put_get_self _ _ _
  rw [captureRecord, unit]
  rfl

section HistoryStored

variable {s : State} {k : Fin 4} {pg : Page} (canonical : MemoryCanonical s)
  (page : s.units[k].prePages[s.units[k].ringHead / framesPerPage s.setup.units[k].mask]? = some pg)
  (hhead : s.units[k].ringHead < s.setup.units[k].pre) (hcount : s.units[k].historyCount ≤ s.setup.units[k].pre)
  (f : FrameNumber)
include canonical page hhead hcount

/-- R125, R139: the last pre offset reads the frame just stored. -/
theorem historyStored_newest :
    (s.historyStored k f pg).store.frameAt
        (s.ringRecord k ((s.units[k].ringHead + 1) % s.setup.units[k].pre)
          (countAfter s.setup.units[k].pre s.units[k].historyCount))
        (countAfter s.setup.units[k].pre s.units[k].historyCount - 1) =
      selectedLanes s.setup.units[k].mask s.lanes := by
  have pos : countAfter s.setup.units[k].pre s.units[k].historyCount - 1
      < countAfter s.setup.units[k].pre s.units[k].historyCount := by
    unfold countAfter
    split <;> omega
  rw [ringRecord_frameAt _ pos (newest_place hhead hcount) page]
  exact writeFrame_readAll canonical _ _ _

/-- R125, R139: an earlier pre offset reads what it read before, one offset later when the oldest frame was overwritten. -/
theorem historyStored_earlier (range : UnitInRange s.setup.units[k] s.units[k]) (nodup : s.units[k].prePages.Nodup) {j : Nat}
    (hj : j + 1 < countAfter s.setup.units[k].pre s.units[k].historyCount) :
    (s.historyStored k f pg).store.frameAt
        (s.ringRecord k ((s.units[k].ringHead + 1) % s.setup.units[k].pre)
          (countAfter s.setup.units[k].pre s.units[k].historyCount)) j =
      s.store.frameAt (s.ringRecord k s.units[k].ringHead s.units[k].historyCount)
        (j + (s.units[k].historyCount + 1 - countAfter s.setup.units[k].pre s.units[k].historyCount)) := by
  obtain ⟨place, hplace⟩ : ∃ place, place =
      ((s.units[k].ringHead + 1) % s.setup.units[k].pre + s.setup.units[k].pre
        - countAfter s.setup.units[k].pre s.units[k].historyCount + j) % s.setup.units[k].pre := ⟨_, rfl⟩
  have filling : s.units[k].historyCount < s.setup.units[k].pre → s.units[k].ringHead = s.units[k].historyCount :=
    fun notFull => (if_pos notFull).mp range.head
  obtain ⟨samePlace, otherPlace⟩ := earlier_place hhead hcount filling hj
  rw [← hplace] at samePlace otherPlace
  have inRing : place < s.setup.units[k].pre := hplace ▸ Nat.mod_lt _ (Nat.zero_lt_of_lt hhead)
  have fpp : 0 < framesPerPage s.setup.units[k].mask := by
    have inside := (List.getElem?_eq_some_iff.1 page).1
    rw [range.prePages] at inside
    refine Nat.pos_of_ne_zero fun none => ?_
    rw [ringPages, ceilDiv, none, Nat.div_zero, Nat.div_zero] at inside
    exact Nat.not_lt_zero _ inside
  obtain ⟨pq, held⟩ : ∃ pq, s.units[k].prePages[place / framesPerPage s.setup.units[k].mask]? = some pq :=
    ⟨_, List.getElem?_eq_getElem (range.prePages ▸ place_page_lt fpp inRing)⟩
  have before : j + (s.units[k].historyCount + 1 - countAfter s.setup.units[k].pre s.units[k].historyCount)
      < s.units[k].historyCount := by
    unfold countAfter at hj ⊢
    split at hj <;> split <;> omega
  rw [ringRecord_frameAt _ (Nat.lt_of_succ_lt hj) hplace.symm held, ringRecord_frameAt _ before samePlace.symm held]
  refine Memory.readAll_writeAll_apart _ _ _ _ _ canonical ?_
  rw [selectedLanes_length]
  exact frames_apart (Nat.mod_lt _ fpp) (Nat.mod_lt _ fpp) (places_differ nodup otherPlace held page)

end HistoryStored

/-- Settles O53: the frame's place, the unit's record, and the ring read from the head that has moved on. -/
theorem historyFrameIsStored : Obligations.HistoryFrameIsStored := by
  rintro s k f u setup pg a canonical rfl rfl harmed hpre page rfl
  refine ⟨s.historyStored k f pg, (handleFrame_history harmed hpre page f).symm,
    fun x => writeFrame_read_outside canonical _ _ _, writeFrame_readAll canonical _ _ _, rfl, rfl, fun count hc => ?_⟩
  subst hc
  refine ⟨congrArg (put s.units k) (historyUnit_eq _ f _), fun hhead hcount r hr => ?_⟩
  subst hr
  refine ⟨?newest, fun range nodup j hj => ?earlier⟩
  case newest =>
    rw [historyStored_frameAt]
    exact historyStored_newest canonical page hhead hcount f
  case earlier =>
    rw [historyStored_frameAt]
    exact historyStored_earlier canonical page hhead hcount f range nodup hj

end Sys2Proof.Machine

namespace Sys2Proof.Machine

/-! ### What a command is made of, as the captures, the image and the run number see it

Which operations a row is made of is said once here, for every relation from the state before to the state after. A statement about the writers of a field, or an invariant of the captures, is then a matter of the few operations that can touch it. -/

/-- From `s` to `t` the units, the pages, words and records of the store, the image and the run number stand. -/
structure CapturesStand (s t : State) : Prop where
  units     : t.units = s.units
  free      : t.store.free = s.store.free
  mem       : t.store.mem = s.store.mem
  index     : t.store.index = s.store.index
  image     : t.image = s.image
  runNumber : t.runNumber = s.runNumber

namespace CapturesStand

variable {s t : State}

theorem of_store (units : t.units = s.units) (store : t.store = s.store) (image : t.image = s.image)
    (runNumber : t.runNumber = s.runNumber) : CapturesStand s t :=
  ⟨units, by rw [store], by rw [store], by rw [store], image, runNumber⟩

theorem of_inputs (g : OnlyInputs s t) : CapturesStand s t := of_store g.units g.store g.image g.runNumber

theorem of_conditions (g : OnlyConditions s t) : CapturesStand s t := of_store g.units g.store g.image g.runNumber

theorem of_timers (g : OnlyTimers s t) : CapturesStand s t := of_store g.units g.store g.image g.runNumber

theorem of_levels (g : OnlyLevels s t) : CapturesStand s t := of_store g.units g.store g.image g.runNumber

theorem link (l : Link) (s : State) : CapturesStand s { s with link := l } := of_store rfl rfl rfl rfl

theorem iface (i : FrameInterface) (s : State) : CapturesStand s { s with iface := i } := of_store rfl rfl rfl rfl

theorem raise (id : EventId) (s : State) : CapturesStand s (s.raise id) :=
  of_store (by simp) (by simp) (by simp) (by simp)

theorem answer (a : Answer) (s : State) : CapturesStand s (s.answer a) :=
  of_store (by simp) (by simp) (by simp) (by simp)

theorem clock (e : SckEdge) (s : State) : CapturesStand s (s.clock e) :=
  have only := clock_only e s
  of_store (clock_units e s) only.store only.image only.runNumber

/-- R193: a setup taken up leaves the captures alone. -/
theorem takeUp (u : Setup) (s : State) : CapturesStand s (s.takeUp u) := by
  constructor <;> simp [State.takeUp, State.markLow]

end CapturesStand

/-- A unit's record changes, but not its phase and its pages, and not at all in IDLE. -/
structure UnitTouched (u v : UnitState) : Prop where
  phase     : v.phase = u.phase
  prePages  : v.prePages = u.prePages
  postPages : v.postPages = u.postPages
  idle      : u.phase = .idle → v = u

theorem interrupt_touched (u : UnitState) : UnitTouched u u.interrupt := by
  unfold UnitState.interrupt
  split
  · exact ⟨rfl, rfl, rfl, fun _ => rfl⟩
  all_goals
    rename_i busy
    exact ⟨rfl, rfl, rfl, fun idle => nomatch busy.symm.trans idle⟩

theorem fixTrigger_touched (frame : FrameNumber) (u : UnitState) : UnitTouched u (u.fixTrigger frame) := by
  unfold UnitState.fixTrigger
  split
  · rename_i busy _
    exact ⟨rfl, rfl, rfl, fun idle => nomatch busy.symm.trans idle⟩
  all_goals exact ⟨rfl, rfl, rfl, fun _ => rfl⟩

/-- A relation from the state before to the state after, kept by what the units do outside the handling of a frame. -/
structure CaptureClosed (P : State → State → Prop) : Prop where
  refl          : ∀ s, P s s
  trans         : ∀ {s t u}, P s t → P t u → P s u
  stands        : ∀ {s t}, CapturesStand s t → P s t
  touch         : ∀ {f : Fin 4 → UnitState} {s : State}, (∀ k : Fin 4, UnitTouched s.units[k] (f k)) →
    P s { s with units := tab f }
  tryArm        : ∀ {k : Fin 4} {s t : State}, s.units[k].phase = .idle → s.tryArm k = some t → P s t
  triggerUnitBy : ∀ k source word frame s, P s (s.triggerUnitBy k source word frame)
  giveUp        : ∀ {k : Fin 4} {s : State}, s.units[k].phase = .filling ∨ s.units[k].phase = .armed → P s (s.giveUp k)
  flagAndClose  : ∀ {k : Fin 4} {s : State} (f : CaptureFlags → CaptureFlags), s.units[k].phase = .post →
    P s ((s.flagUnit k f).closeCapture k)

namespace CaptureClosed

variable {P : State → State → Prop} (h : CaptureClosed P)
include h

theorem foldl {α : Type} {f : State → α → State} (hf : ∀ s x, P s (f s x)) (xs : List α) (s : State) :
    P s (xs.foldl f s) := by
  induction xs generalizing s with
  | nil => exact h.refl s
  | cons x xs ih => exact h.trans (hf s x) (ih _)

/-! The units (R122 to R147). -/

theorem armUnitBy (k : Fin 4) (cause : ArmCause) (frame : FrameNumber) (s : State) :
    P s (s.armUnitBy k cause frame) := by
  unfold State.armUnitBy State.armOrReport
  split
  · split
    · exact h.tryArm (by assumption) (by assumption)
    · exact h.stands (.link _ s)
  all_goals exact h.refl s

theorem rearm (k : Fin 4) (frame : FrameNumber) (s : State) : P s (s.rearm k frame) := by
  unfold State.rearm
  split
  · exact h.armUnitBy k _ frame s
  · exact h.refl s

theorem armAtRun (s : State) (k : Fin 4) : P s (s.armAtRun k) := by
  unfold State.armAtRun
  split
  · exact h.armUnitBy k _ _ s
  · exact h.refl s

theorem abortUnitBy (k : Fin 4) (s : State) : P s (s.abortUnitBy k) := by
  unfold State.abortUnitBy
  split
  · exact h.refl s
  · exact h.giveUp (.inl (by assumption))
  · exact h.giveUp (.inr (by assumption))
  · exact h.flagAndClose _ (by assumption)

theorem stopUnit (k : Fin 4) (s : State) : P s (s.stopUnit k) := by
  unfold State.stopUnit
  split
  · exact h.refl s
  · exact h.giveUp (.inl (by assumption))
  · exact h.giveUp (.inr (by assumption))
  · exact h.flagAndClose _ (by assumption)

theorem unitAction (fired : List (Fin 48)) (frame : FrameNumber) (word : BitVec 32) (k : Fin 4) (s : State) :
    P s (s.unitAction fired frame word k) := by
  unfold State.unitAction
  split
  · exact h.abortUnitBy k s
  · exact h.triggerUnitBy k _ _ _ s
  · exact h.armUnitBy k _ _ s
  · exact h.refl s

/-! The stream (R11, R126), a stop (R192) and the evaluation of a frame (R16, R128). -/

theorem clockAll (edges : List SckEdge) (s : State) : P s (s.clockAll edges) :=
  h.foldl (fun a e => h.stands (.clock e a)) edges s

theorem quiet (periods : Nat) (s : State) : P s (s.quiet periods) := by
  have lost : P s s.loseSync :=
    h.trans (h.trans (h.trans (h.touch fun k => interrupt_touched s.units[k]) (h.stands (.iface _ _)))
      (h.stands (.raise _ _))) (h.stands (.link _ _))
  unfold State.quiet
  split
  · exact h.refl s
  · split
    · exact lost
    · exact h.stands (.iface _ s)

theorem stopEngine (s : State) : P s s.stopEngine := by
  have halted : P s s.haltBlocks := h.stands (.of_store rfl rfl rfl rfl)
  exact h.trans halted (h.foldl (fun a k => h.stopUnit k a) _ _)

theorem linedFrame (f : HeldFrame) (s : State) : P s (s.linedFrame f) := by
  have fixed : P s { s with units := tab fun k => s.units[k].fixTrigger f.number } :=
    h.touch fun k => fixTrigger_touched f.number s.units[k]
  have evaluated : P s (s.evaluatedFrame f) := h.trans fixed (h.stands (.of_store rfl rfl rfl rfl))
  exact h.trans (h.trans evaluated (h.stands (.of_conditions (conditionActions_only _ _))))
    (h.stands (.of_levels (lineActions_only _ _)))

end CaptureClosed

/-! ### The rows -/

/-- The commands that may write the stored image (R195). -/
def writesImage : Instr → Bool
  | .saveSetup | .saveComplete _ => true
  | _ => false

/-- The commands that may start a run (R190, R198, R199). -/
def startsRun : Instr → Bool
  | .run | .restartSetupRead | .startupSetupRead => true
  | _ => false

/-- A relation from the state before to the state after, kept by each operation that the row of command `c` is made of. -/
structure RowClosed (c : Instr) (P : State → State → Prop) : Prop extends CaptureClosed P where
  image       : writesImage c = true → ∀ i s, P s { s with image := i }
  runNumber   : startsRun c = true → ∀ n s, P s { s with runNumber := n }
  handleFrame : ∀ {during}, c = .take during → ∀ k f s, P s (s.handleFrame k f)
  reset       : ∀ {cause pins}, c = .hardReset cause pins → ∀ s, P s (State.afterReset cause pins s.image s.pending)
  clearUnit   : ∀ {k : Fin 4} {s : State}, s.units[k].phase = .idle → P s (s.setUnitState k clearedUnit)
  markHeld    : ∀ id mark s, P s { s with store := { s.store with index := markHeld id mark s.store.index } }
  removeRecord : ∀ {r s}, r ∈ s.store.index → P s (s.removeRecord r)

namespace RowClosed

variable {c : Instr} {P : State → State → Prop} (h : RowClosed c P)
include h

theorem link (l : Link) (s : State) : P s { s with link := l } := h.stands (.link l s)

theorem answer (a : Answer) (s : State) : P s (s.answer a) := h.stands (.answer a s)

theorem startRun (starts : startsRun c = true) (s : State) : P s s.startRun := by
  have prepared : P s s.prepareRun :=
    h.trans (h.runNumber starts (nextFromOne s.runNumber) s) (h.stands (.of_store rfl rfl rfl rfl))
  exact h.trans (h.trans prepared (h.foldl h.armAtRun (List.finRange 4) _)) (h.stands (.iface _ _))

theorem comeUp (starts : startsRun c = true) (cause : ReadyCause) (s : State) : P s (s.comeUp cause) := by
  unfold State.comeUp
  dsimp only
  split
  · exact h.trans (h.link _ s) (h.startRun starts _)
  · exact h.link _ s
  · exact h.link _ s

theorem startupRead (starts : startsRun c = true) (cause : ReadyCause) (u : Setup) (s : State) :
    P s (State.comeUp cause { s.takeUp u with startup := none }) := by
  have started : P (s.takeUp u) { s.takeUp u with startup := none } := h.stands (.of_store rfl rfl rfl rfl)
  exact h.trans (h.trans (h.stands (.takeUp u s)) started) (h.comeUp starts cause _)

theorem endRestart (starts : startsRun c = true) (s : State) : P s s.endRestart := by
  have cleared : ∀ t : State, P t t.clearRuntime := fun t => h.stands (.of_store rfl rfl rfl rfl)
  exact h.trans (h.trans (h.trans (h.stands (.takeUp _ s)) (cleared _)) (h.comeUp starts .restart _)) (h.link _ _)

theorem beginRestart (q : Request) (s : State) : P s (s.beginRestart q) := by
  unfold State.beginRestart
  dsimp only
  split
  · exact h.trans (h.trans (h.link _ s) (h.stopEngine _)) (h.link _ _)
  · exact h.trans (h.link _ s) (h.link _ _)

theorem endSave (writes : writesImage c = true) (copy : Setup) (verified : Bool) (s : State) :
    P s (s.endSave copy verified) := by
  unfold State.endSave
  dsimp only
  split
  · exact h.trans (h.image writes _ s) (h.answer _ _)
  · exact h.answer _ s

theorem endLoad (s : State) : P s s.endLoad := by
  unfold State.endLoad
  split
  · exact h.trans (h.stands (.takeUp _ s)) (h.answer _ _)
  · exact h.answer _ s
  · exact h.answer _ s

/-- R16, R96: the work of a frame, whatever falls into it. -/
theorem workFrame {during : List StreamEvent} (takes : c = .take during) (f : HeldFrame) (s : State) :
    P s (s.workFrame f during) := by
  rw [workFrame_lined]
  refine h.trans (h.linedFrame f s) ?_
  exact interleave_keeps _ _ _ h.refl (fun _ _ _ => h.trans) (fun e a => h.stands (.clock e a)) h.quiet
    (fun a => h.link _ a) (fun k a => h.stands (.of_timers (timerAction_only _ k a))) (fun _ a => h.link _ a)
    (fun k a => h.trans (h.unitAction _ _ _ k a) (h.handleFrame takes k _ _)) _ _ _ _ _

/-! The requests. -/

theorem setPort (p : List Byte) (s : State) : P s (setPort p s).1 := by
  rcases setPort_cases p s with e | ⟨u, -, -, e, -⟩ <;> rw [e]
  · exact h.refl s
  · exact h.stands (.of_store rfl rfl rfl rfl)

theorem setMeasure (p : List Byte) (s : State) : P s (setMeasure p s).1 := by
  rcases setMeasure_cases p s with e | ⟨m, u, -, -, e⟩ <;> rw [e]
  · exact h.refl s
  · exact h.stands (.of_store rfl rfl rfl rfl)

theorem setCondition (p : List Byte) (s : State) : P s (setCondition p s).1 := by
  rcases setCondition_cases p s with e | ⟨c, u, -, -, e⟩ <;> rw [e]
  · exact h.refl s
  · exact h.stands (.of_store rfl rfl rfl rfl)

theorem setTimer (p : List Byte) (s : State) : P s (setTimer p s).1 := by
  rcases setTimer_cases p s with e | ⟨k, u, -, -, e⟩ <;> rw [e]
  · exact h.refl s
  · exact h.stands (.of_store rfl rfl rfl rfl)

theorem setBinding (p : List Byte) (s : State) : P s (setBinding p s).1 := by
  rcases setBinding_cases p s with e | ⟨b, r, -, e⟩ <;> rw [e]
  · exact h.refl s
  · exact h.stands (.of_store rfl rfl rfl rfl)

theorem setUnit (p : List Byte) (s : State) : P s (setUnit p s).1 := by
  rcases setUnit_cases p s with e | ⟨k, u, idle, -, e⟩ <;> rw [e]
  · exact h.refl s
  · have written : P s { s with setup := { s.setup with units := put s.setup.units k u } } :=
      h.stands (.of_store rfl rfl rfl rfl)
    exact h.trans written (h.clearUnit idle)

theorem setLine (p : List Byte) (s : State) : P s (setLine p s).1 := by
  rcases setLine_cases p s with e | ⟨o, u, e⟩ | ⟨i, f, -, e⟩ <;> rw [e]
  · exact h.refl s
  · exact h.stands (.of_store rfl rfl rfl rfl)
  · have written : P s { s with setup := { s.setup with filters := put s.setup.filters i f } } :=
      h.stands (.of_store rfl rfl rfl rfl)
    exact h.trans written (h.stands (.of_inputs (refilter_only i _)))

theorem setStore (p : List Byte) (s : State) : P s (setStore p s).1 := by
  rcases setStore_cases p s with e | ⟨u, -, e⟩ <;> rw [e]
  · exact h.refl s
  · exact h.stands ⟨rfl, rfl, rfl, rfl, rfl, rfl⟩

theorem autorunRequest (p : List Byte) (s : State) : P s (autorunRequest p s).1 := by
  rcases autorunRequest_cases p s with e | ⟨b, e⟩ <;> rw [e]
  · exact h.refl s
  · exact h.stands (.of_store rfl rfl rfl rfl)

theorem defaultRequest (p : List Byte) (s : State) : P s (defaultRequest p s).1 := by
  rcases defaultRequest_cases p s with e | ⟨-, e⟩ <;> rw [e]
  · exact h.refl s
  · exact h.stands (.takeUp _ s)

theorem runRequest (starts : startsRun c = true) (p : List Byte) (s : State) : P s (runRequest p s).1 := by
  rcases runRequest_cases p s with e | ⟨-, -, e⟩ <;> rw [e]
  · exact h.refl s
  · exact h.startRun starts s

theorem stopRequest (p : List Byte) (s : State) : P s (stopRequest p s).1 := by
  rcases stopRequest_cases p s with e | ⟨-, e⟩ <;> rw [e]
  · exact h.refl s
  · exact h.stopEngine s

theorem statusRequest (p : List Byte) (s : State) : P s (statusRequest p s).1 := by
  rcases statusRequest_cases p s with e | e <;> rw [e]
  · exact h.refl s
  · exact h.link _ s

theorem conditionRequest (op : ConditionSetup → ConditionState → ConditionState) (p : List Byte) (s : State) :
    P s (conditionRequest op p s).1 := by
  rcases conditionRequest_cases op p s with e | ⟨c, -, e⟩ <;> rw [e]
  · exact h.refl s
  · exact h.stands (.of_conditions (onCondition_only op c s))

theorem timerRequest (op : TimerSetup → TimerState → TimerState) (p : List Byte) (s : State) :
    P s (timerRequest op p s).1 := by
  rcases timerRequest_cases op p s with e | ⟨k, -, e⟩ <;> rw [e]
  · exact h.refl s
  · exact h.stands (.of_store rfl rfl rfl rfl)

theorem fire (p : List Byte) (s : State) : P s (fire p s).1 := by
  rcases fire_cases p s with e | ⟨ns, -, e⟩ <;> rw [e]
  · exact h.refl s
  · exact h.foldl (fun a n => h.stands (.raise (evSoft n) a)) ns s

theorem driveLine (p : List Byte) (s : State) : P s (driveLine p s).1 := by
  rcases driveLine_cases p s with e | ⟨op, o, e⟩ <;> rw [e]
  · exact h.refl s
  · exact h.stands (.of_store rfl rfl rfl rfl)

theorem armRequest (p : List Byte) (s : State) : P s (unitRequest armRequest p s).1 := by
  rcases unitRequest_cases Machine.armRequest p s with e | ⟨k, -, e⟩ <;> rw [e]
  · exact h.refl s
  · rcases armRequest_cases k s with e | ⟨idle, e⟩
    · rw [e]; exact h.refl s
    · exact h.tryArm idle e

theorem triggerRequest (p : List Byte) (s : State) : P s (unitRequest triggerRequest p s).1 := by
  rcases unitRequest_cases Machine.triggerRequest p s with e | ⟨k, -, e⟩ <;> rw [e]
  · exact h.refl s
  · rcases triggerRequest_cases k s with e | ⟨-, e⟩ <;> rw [e]
    · exact h.refl s
    · exact h.triggerUnitBy k _ _ _ s

theorem abortRequest (p : List Byte) (s : State) : P s (unitRequest abortRequest p s).1 := by
  rcases unitRequest_cases Machine.abortRequest p s with e | ⟨k, -, e⟩ <;> rw [e]
  · exact h.refl s
  · rcases abortRequest_cases k s with e | ⟨-, e⟩ <;> rw [e]
    · exact h.refl s
    · exact h.abortUnitBy k s

theorem holdCapture (p : List Byte) (s : State) : P s (holdCapture p s).1 := by
  rcases holdCapture_cases p s with e | ⟨r, -, mark, e⟩ <;> rw [e]
  · exact h.refl s
  · exact h.markHeld r.id mark s

theorem releaseCapture (p : List Byte) (s : State) : P s (releaseCapture p s).1 := by
  rcases releaseCapture_cases p s with e | ⟨r, hr, e⟩ <;> rw [e]
  · exact h.refl s
  · exact h.removeRecord hr

/-! The rows. -/

theorem serve {act : List Byte → State → State × Answer} (kind : Byte) (effect : ∀ p s, P s (act p s).1) (s : State) :
    P s (serve kind act s) :=
  serve_keeps kind (fun a _ acted => h.trans acted (h.answer a _)) (fun p => effect p s) (h.refl s)

theorem serve_report {act : List Byte → State → State × Answer} (kind : Byte) (report : ∀ p s, (act p s).1 = s)
    (s : State) : P s (Machine.serve kind act s) :=
  h.serve kind (fun p s => (report p s).symm ▸ h.refl s) s

/-- A row that is carried out under a condition on the state, and otherwise leaves it. -/
theorem of_ite {s t : State} {p : Prop} [Decidable p] (carriedOut : P s t) : P s (if p then t else s) := by
  split
  · exact carriedOut
  · exact h.refl s

theorem restart (q : Request) (s : State) :
    P s (if q.payload ≠ [] then s.answer (refusal .badLength)
      else if s.link.replies.length < Config.replyPlaces then s.beginRestart q else s) := by
  split
  · exact h.answer _ s
  · exact h.of_ite (h.beginRestart q s)

theorem saveSetup (writes : writesImage c = true) (q : Request) (s : State) :
    P s (if q.payload ≠ [] then s.answer (refusal .badLength) else s.beginSave) := by
  split
  · exact h.answer _ s
  · exact h.trans (h.image writes _ s) (h.link _ _)

theorem loadSetup (q : Request) (s : State) :
    P s (if q.payload ≠ [] then s.answer (refusal .badLength)
      else match s.engine with
        | .running => s.answer (refusal .state)
        | .stopped => s.dispatcherTo (.waiting .loading)) := by
  split
  · exact h.answer _ s
  · split
    · exact h.answer _ s
    · exact h.link _ s

/-- What the operations of a row keep, the row keeps. -/
theorem exec {s t : State} (e : exec c s = .next t) : P s t := by
  cases c
  case hardReset cause pins => exact next_keeps (h.reset rfl s) e
  case startupSetupRead =>
    refine next_keeps (P := P s) ?_ e
    split
    · exact h.startupRead rfl _ _ s
    · exact h.refl s
  case messageReceived bytes => exact next_keeps (h.link _ s) e
  case receiveTimeout periods => exact next_keeps (h.link _ s) e
  case stopBitError byte =>
    refine next_keeps (P := P s) ?_ e
    split
    · exact h.refl s
    · exact h.link _ s
  case unknownKind => exact next_keeps (P := P s) (onRequest_keeps (fun _ _ => h.answer _ s) (h.refl s)) e
  case replyPlaced =>
    refine next_keeps (P := P s) ?_ e
    split
    · exact h.link _ s
    all_goals exact h.refl s
  case transmitComplete => exact next_keeps (h.link _ s) e
  case identify => exact next_keeps (h.serve_report _ identifyRequest_state s) e
  case status => exact next_keeps (h.serve _ h.statusRequest s) e
  case run => exact next_keeps (h.serve _ (h.runRequest rfl) s) e
  case stop => exact next_keeps (h.serve _ h.stopRequest s) e
  case restart => exact next_keeps (P := P s) (onRequest_keeps (fun q _ => h.restart q s) (h.refl s)) e
  case restartSetupRead => exact next_keeps (h.of_ite (h.endRestart rfl s)) e
  case saveSetup =>
    refine next_keeps (P := P s) (onRequest_keeps (fun q _ => ?_) (h.refl s)) e
    exact h.saveSetup rfl q s
  case saveComplete verified =>
    refine next_keeps (P := P s) ?_ e
    split
    · exact h.endSave rfl _ verified s
    all_goals exact h.refl s
  case loadSetup =>
    refine next_keeps (P := P s) (onRequest_keeps (fun q _ => ?_) (h.refl s)) e
    exact h.loadSetup q s
  case loadComplete =>
    refine next_keeps (P := P s) ?_ e
    split
    · exact h.endLoad s
    all_goals exact h.refl s
  case defaultSetup => exact next_keeps (h.serve _ h.defaultRequest s) e
  case setAutorun => exact next_keeps (h.serve _ h.autorunRequest s) e
  case setPort => exact next_keeps (h.serve _ h.setPort s) e
  case getPort => exact next_keeps (h.serve_report _ getPort_state s) e
  case setMeasure => exact next_keeps (h.serve _ h.setMeasure s) e
  case getMeasure => exact next_keeps (h.serve_report _ getMeasure_state s) e
  case setCondition => exact next_keeps (h.serve _ h.setCondition s) e
  case getCondition => exact next_keeps (h.serve_report _ getCondition_state s) e
  case armCondition => exact next_keeps (h.serve _ (h.conditionRequest condArm) s) e
  case disarmCondition => exact next_keeps (h.serve _ (h.conditionRequest condDisarm) s) e
  case unlatchCondition => exact next_keeps (h.serve _ (h.conditionRequest condUnlatch) s) e
  case setTimer => exact next_keeps (h.serve _ h.setTimer s) e
  case getTimer => exact next_keeps (h.serve_report _ getTimer_state s) e
  case startTimer => exact next_keeps (h.serve _ (h.timerRequest timerStart) s) e
  case stopTimer => exact next_keeps (h.serve _ (h.timerRequest timerStop) s) e
  case resumeTimer => exact next_keeps (h.serve _ (h.timerRequest timerResume) s) e
  case setBinding => exact next_keeps (h.serve _ h.setBinding s) e
  case getBinding => exact next_keeps (h.serve_report _ getBinding_state s) e
  case fire => exact next_keeps (h.serve _ h.fire s) e
  case setLine => exact next_keeps (h.serve _ h.setLine s) e
  case getLines => exact next_keeps (h.serve_report _ getLines_state s) e
  case driveLine => exact next_keeps (h.serve _ h.driveLine s) e
  case setUnit => exact next_keeps (h.serve _ h.setUnit s) e
  case getUnit => exact next_keeps (h.serve_report _ getUnit_state s) e
  case armUnit => exact next_keeps (h.serve _ h.armRequest s) e
  case triggerUnit => exact next_keeps (h.serve _ h.triggerRequest s) e
  case abortUnit => exact next_keeps (h.serve _ h.abortRequest s) e
  case listCaptures => exact next_keeps (h.serve_report _ listCaptures_state s) e
  case getCapture => exact next_keeps (h.serve_report _ getCapture_state s) e
  case readFrames => exact next_keeps (h.serve_report _ readFrames_state s) e
  case holdCapture => exact next_keeps (h.serve _ h.holdCapture s) e
  case releaseCapture => exact next_keeps (h.serve _ h.releaseCapture s) e
  case setStore => exact next_keeps (h.serve _ h.setStore s) e
  case getStore => exact next_keeps (h.serve_report _ getStore_state s) e
  case firstSyncEdge edges => exact next_keeps (h.of_ite (h.clockAll edges s)) e
  case frameBoundary edges => exact next_keeps (h.of_ite (h.clockAll edges s)) e
  case timerExpire timer edges => exact next_keeps (h.of_ite (h.clockAll edges s)) e
  case syncLost periods => exact next_keeps (h.quiet periods s) e
  case syncRegained edges => exact next_keeps (h.of_ite (h.clockAll edges s)) e
  case take during =>
    change execTake during s = .next t at e
    unfold execTake at e
    split at e <;> cases e
    · exact h.workFrame rfl _ s
    · exact h.refl s
    · exact h.refl s
  case inputAccepted input periods => exact next_keeps (h.stands (.of_inputs (holdPin_only input periods s))) e
  case inputPinChange input level => exact next_keeps (h.stands (.of_inputs (samplePin_only input level s))) e

end RowClosed

/-- A property that every command keeps, and that does not speak of the waiting commands, every step keeps (log 1). -/
theorem step_keeps {P : State → Prop} {s t : State} (pending : ∀ rest, P s → P { s with pending := rest })
    (command : ∀ c {u : State}, P u → exec c u = .next t → P t) (h : P s) (e : step s = .next t) : P t := by
  unfold step at e
  split at e
  · exact next_keeps h e
  · rename_i c rest _
    exact command c (pending rest h) e

end Sys2Proof.Machine

namespace Sys2Proof.Machine

/-! ### The words of the capture store kept canonical (R149; log 13) -/

/-- From `s` to `t` words in canonical form stay in it. -/
def MemoryKept (s t : State) : Prop := MemoryCanonical s → MemoryCanonical t

theorem memoryKept_of_mem {s t : State} (mem : t.store.mem = s.store.mem) : MemoryKept s t := fun canonical => by
  rw [MemoryCanonical, mem]
  exact canonical

theorem writeFrame_memoryKept (pg : Page) (pos : Nat) (mask : BitVec 16) (s : State) :
    MemoryKept s (s.writeFrame pg pos mask) :=
  Memory.writeAll_wf _ _ _

theorem memoryKept_storeClosed : StoreClosed MemoryKept where
  refl _ := id
  trans h g := g ∘ h
  raise _ _ := memoryKept_of_mem (by simp)
  notify _ _ := memoryKept_of_mem rfl
  setUnit _ _ _ := memoryKept_of_mem rfl
  claim granted := by
    obtain ⟨-, -, -, -, -, store, -⟩ := claim_some granted
    exact memoryKept_of_mem (by rw [store])
  giveBack _ _ := memoryKept_of_mem rfl
  writeFrame := writeFrame_memoryKept
  handOver _ _ := memoryKept_of_mem (by simp)

theorem memoryKept_rowClosed (c : Instr) : RowClosed c MemoryKept where
  refl := memoryKept_storeClosed.refl
  trans := memoryKept_storeClosed.trans
  stands g := memoryKept_of_mem g.mem
  touch _ := memoryKept_of_mem rfl
  tryArm _ := memoryKept_storeClosed.tryArm
  triggerUnitBy := memoryKept_storeClosed.triggerUnitBy
  giveUp _ := memoryKept_storeClosed.giveUp _ _
  flagAndClose f _ := memoryKept_storeClosed.flagAndClose _ f _
  image _ _ _ := memoryKept_of_mem rfl
  runNumber _ _ _ := memoryKept_of_mem rfl
  handleFrame _ := memoryKept_storeClosed.handleFrame
  reset _ _ _ := rfl
  clearUnit _ := memoryKept_of_mem rfl
  markHeld _ _ _ := memoryKept_of_mem rfl
  removeRecord _ := memoryKept_of_mem rfl

/-- Settles O4: a frame is written word by word, each write keeps the form, and nothing else writes words but a reset, which leaves none. -/
theorem stepKeepsMemoryCanonical : Obligations.StepKeepsMemoryCanonical :=
  fun _ _ => step_keeps (fun _ => id) fun c _ canonical e => (memoryKept_rowClosed c).exec e canonical

end Sys2Proof.Machine

namespace Sys2Proof.Machine

/-! ### The writers of the words, the image and the run number (R149, R189, R195) -/

theorem flagAndClose_mem (k : Fin 4) (f : CaptureFlags → CaptureFlags) (s : State) :
    ((s.flagUnit k f).closeCapture k).store.mem = s.store.mem := closeCapture_mem k _

theorem triggerUnitBy_store (k : Fin 4) (source : Byte) (word : BitVec 32) (frame : Option FrameNumber) (s : State) :
    (s.triggerUnitBy k source word frame).store = s.store := by
  unfold State.triggerUnitBy
  split <;> simp

/-- R150: an arming leaves of the store everything but the free list and the low-water state. -/
theorem tryArm_store {k : Fin 4} {s t : State} (e : s.tryArm k = some t) :
    t.store.mem = s.store.mem ∧ t.store.index = s.store.index := by
  unfold State.tryArm at e
  split at e
  · rename_i granted
    obtain ⟨-, -, -, -, -, store, -⟩ := claim_some granted
    cases e
    rw [State.setUnitState_store, store]
    exact ⟨rfl, rfl⟩
  · cases e

/-- R149: outside the work of a frame and a hard reset no row is made of an operation that writes a word. -/
theorem memoryStands_rowClosed {c : Instr} (take : ∀ d, c ≠ .take d) (reset : ∀ cause pins, c ≠ .hardReset cause pins) :
    RowClosed c fun s t => t.store.mem = s.store.mem where
  refl _ := rfl
  trans h g := g.trans h
  stands g := g.mem
  touch _ := rfl
  tryArm _ armed := (tryArm_store armed).1
  triggerUnitBy k source word frame s := congrArg Store.mem (triggerUnitBy_store k source word frame s)
  giveUp _ := rfl
  flagAndClose f _ := flagAndClose_mem _ f _
  image _ _ _ := rfl
  runNumber _ _ _ := rfl
  handleFrame takes := absurd takes (take _)
  reset resets := absurd resets (reset _ _)
  clearUnit _ := rfl
  markHeld _ _ _ := rfl
  removeRecord _ := rfl

/-- A field outside the captures, which the units leave alone, changes only where the row writes it. -/
theorem fieldStands_rowClosed {α : Type} {c : Instr} (field : State → α)
    (stands : ∀ {s t}, CapturesStand s t → field t = field s) (only : ∀ {s t}, OnlyUnits s t → field t = field s)
    (image : writesImage c = true → ∀ i s, field { s with image := i } = field s)
    (runNumber : startsRun c = true → ∀ n s, field { s with runNumber := n } = field s)
    (reset : ∀ {cause pins}, c = .hardReset cause pins →
      ∀ s, field (State.afterReset cause pins s.image s.pending) = field s) :
    RowClosed c fun s t => field t = field s where
  refl _ := rfl
  trans h g := g.trans h
  stands := stands
  touch _ := only (by constructor <;> rfl)
  tryArm _ armed := only (tryArm_some armed)
  triggerUnitBy _ _ _ _ _ := only (triggerUnitBy_only _ _ _ _ _)
  giveUp _ := only (giveUp_only _ _)
  flagAndClose _ _ := only ((flagUnit_only _ _ _).trans (closeCapture_only _ _))
  image := image
  runNumber := runNumber
  handleFrame _ _ _ _ := only (handleFrame_only _ _ _)
  reset := reset
  clearUnit _ := only (setUnitState_only _ _ _)
  markHeld _ _ _ := only (by constructor <;> rfl)
  removeRecord _ := only (removeRecord_only _ _)

/-- R195, R199: only a save writes the image, and a hard reset keeps it. -/
theorem exec_image {c : Instr} {s t : State} (save : c ≠ .saveSetup) (complete : ∀ v, c ≠ .saveComplete v)
    (e : exec c s = .next t) : t.image = s.image := by
  have bars : writesImage c ≠ true := by
    unfold writesImage
    split
    · exact absurd rfl save
    · exact absurd rfl (complete _)
    · exact nofun
  exact (fieldStands_rowClosed State.image CapturesStand.image OnlyUnits.image (fun writes => absurd writes bars)
    (fun _ _ _ => rfl) (fun _ _ => rfl)).exec e

/-- R189: a row that starts no run keeps the run number, but for a hard reset. -/
theorem exec_runNumber {c : Instr} {s t : State} (starts : startsRun c = false)
    (reset : ∀ cause pins, c ≠ .hardReset cause pins) (e : exec c s = .next t) : t.runNumber = s.runNumber :=
  (fieldStands_rowClosed State.runNumber CapturesStand.runNumber OnlyUnits.runNumber (fun _ _ _ => rfl)
    (fun runs => nomatch starts.symm.trans runs) (fun resets => absurd resets (reset _ _))).exec e

/-! ### The rows that start a run -/

/-- R189: from `s` to `t` no run starts, or one does, with the next run number. -/
def RunCounted (s t : State) : Prop :=
  t.runNumber = s.runNumber ∨ t.engine = .running ∧ t.runNumber = nextFromOne s.runNumber

theorem startRun_counted (s : State) : RunCounted s s.startRun := by
  have armed : OnlyUnits s.prepareRun ((List.finRange 4).foldl State.armAtRun s.prepareRun) :=
    OnlyUnits.foldl _ armAtRun_only _ _
  refine .inr ⟨?_, ?_⟩ <;> rw [State.startRun]
  · exact armed.engine
  · exact armed.runNumber

theorem comeUp_counted (cause : ReadyCause) (s : State) : RunCounted s (s.comeUp cause) := by
  unfold State.comeUp
  dsimp only
  split
  · exact startRun_counted (s.notify _)
  · exact .inl rfl
  · exact .inl rfl

/-- R193: a setup taken up leaves the run number, which counts on from there. -/
theorem RunCounted.of_takeUp {s t v : State} {u : Setup} (counted : RunCounted v t)
    (taken : v.runNumber = (s.takeUp u).runNumber) : RunCounted s t := by
  have same : v.runNumber = s.runNumber := taken.trans (CapturesStand.takeUp u s).runNumber
  rwa [RunCounted, same] at counted

theorem RunCounted.answer {s t : State} (a : Answer) (h : RunCounted s t) : RunCounted s (t.answer a) := by
  rw [RunCounted, State.answer_runNumber, State.answer_engine]
  exact h

/-- R189: a row that starts a run counts it once. -/
theorem exec_runCounted {c : Instr} {s t : State} (starts : startsRun c = true) (e : exec c s = .next t) :
    RunCounted s t := by
  cases c
  case run =>
    refine next_keeps (serve_keeps (P := RunCounted s) 0x03 (fun a _ => .answer a) (fun p => ?_) (.inl rfl)) e
    rcases runRequest_cases p s with same | ⟨-, -, started⟩
    · exact .inl (by rw [same])
    · rw [started]; exact startRun_counted s
  case restartSetupRead =>
    refine next_keeps (P := RunCounted s) ?_ e
    split
    · have counted := comeUp_counted .restart (s.takeUp s.image.loaded).clearRuntime
      exact counted.of_takeUp (t := s.endRestart) (u := s.image.loaded) rfl
    · exact .inl rfl
  case startupSetupRead =>
    refine next_keeps (P := RunCounted s) ?_ e
    split
    · exact (comeUp_counted _ _).of_takeUp (u := s.image.loaded) rfl
    · exact .inl rfl
  all_goals exact nomatch starts

theorem startsRun_iff (c : Instr) : startsRun c = true ↔ c = .run ∨ c = .restartSetupRead ∨ c = .startupSetupRead := by
  cases c <;> simp [startsRun]

/-- Settles O3: each field by the operations that write it, and the rows that are made of them. -/
theorem wordsImageSetupAndRunNumberHaveTheirWriters : Obligations.WordsImageSetupAndRunNumberHaveTheirWriters := by
  refine ⟨fun c s t e take reset a => ?words, fun c s t e save complete => exec_image save complete e,
    fun c s t e leaves => (exec_tablesKept c leaves e).setup, fun c s t e reset => ?number⟩
  case words => rw [(memoryStands_rowClosed take reset).exec e]
  case number =>
    cases starts : startsRun c with
    | false => exact .inl (exec_runNumber starts reset e)
    | true => exact (exec_runCounted starts e).imp_right fun started => ⟨(startsRun_iff c).1 starts, started⟩

end Sys2Proof.Machine

namespace Sys2Proof.Machine

/-! ### Where each page is (R149)

A page is counted among the free pages, those of the units and those of the records. The pages are partitioned when each is counted once; an operation on one unit keeps that when it moves pages between the unit, the free list and the index. -/

/-- R149: how often page `p` is held by the store and the index, the units aside. -/
def Store.holds (p : Page) (t : Store) : Nat := t.free.count p + (t.index.flatMap CaptureRecord.pages).count p

/-- What the rules of the units rest on, of one unit: in IDLE its record is cleared, and an armed one has no post page. -/
structure UnitHolding (u : UnitState) : Prop where
  idle  : u.phase = .idle → u = clearedUnit
  armed : u.phase = .filling ∨ u.phase = .armed → u.postPages = []

theorem clearedUnit_holding : UnitHolding clearedUnit := ⟨fun _ => rfl, fun _ => rfl⟩

theorem UnitHolding.of_post {u : UnitState} (h : u.phase = .post) : UnitHolding u :=
  ⟨fun idle => absurd (h.symm.trans idle) (by decide), fun armed => by simp [h] at armed⟩

theorem UnitHolding.of_noPost {u : UnitState} (busy : u.phase ≠ .idle) (h : u.postPages = []) : UnitHolding u :=
  ⟨fun idle => absurd idle busy, fun _ => h⟩

/-- The pages of a table of units, one entry written: its new pages take the place of its old ones. -/
theorem count_unitPages_put (p : Page) (v : Vector UnitState 4) (k : Fin 4) (u : UnitState) :
    ((put v k u).toList.flatMap UnitState.pages).count p + v[k].pages.count p =
      (v.toList.flatMap UnitState.pages).count p + u.pages.count p := by
  rw [toList_four, toList_four]
  fin_cases k <;> simp <;> omega

theorem pagesPartitioned_iff (s : State) :
    PagesPartitioned s ↔ (∀ p, s.store.holds p + s.unitPages.count p = allPages.count p)
      ∧ ∀ k : Fin 4, UnitHolding s.units[k] := by
  have counted : List.Perm (s.store.free ++ s.unitPages ++ s.recordPages) allPages
      ↔ ∀ p, s.store.holds p + s.unitPages.count p = allPages.count p := by
    rw [List.perm_iff_count]
    refine forall_congr' fun p => ?_
    rw [List.count_append, List.count_append, Store.holds, State.recordPages, Nat.add_right_comm]
  constructor
  · exact fun h => ⟨counted.1 h.partition, fun k => ⟨h.idle k, h.armed k⟩⟩
  · exact fun ⟨pages, units⟩ => ⟨counted.2 pages, fun k => (units k).idle, fun k => (units k).armed⟩

/-- One unit's record is written, and what the unit gains or loses of a page the store or the index loses or gains. -/
theorem PagesPartitioned.writeUnit {s t : State} (h : PagesPartitioned s) {k : Fin 4} {u : UnitState}
    (units : t.units = put s.units k u) (hu : UnitHolding u)
    (moved : ∀ p, t.store.holds p + u.pages.count p = s.store.holds p + s.units[k].pages.count p) : PagesPartitioned t := by
  obtain ⟨pages, held⟩ := (pagesPartitioned_iff s).1 h
  refine (pagesPartitioned_iff t).2 ⟨fun p => ?_, fun j => ?_⟩
  · have written := count_unitPages_put p s.units k u
    have before := pages p
    have balance := moved p
    rw [State.unitPages] at before ⊢
    rw [units]
    omega
  · rw [units]
    exact put_inRange (R := UnitHolding) k held hu j

/-- The units keep their pages, and so do the store and the index. -/
theorem PagesPartitioned.of_touched {s t : State} (h : PagesPartitioned s)
    (units : ∀ k : Fin 4, UnitTouched s.units[k] t.units[k]) (store : ∀ p, t.store.holds p = s.store.holds p) :
    PagesPartitioned t := by
  obtain ⟨pages, held⟩ := (pagesPartitioned_iff s).1 h
  have same : ∀ k : Fin 4, t.units[k].pages = s.units[k].pages := fun k => by
    rw [UnitState.pages, UnitState.pages, (units k).prePages, (units k).postPages]
  have unitPages : t.unitPages = s.unitPages := by
    rw [State.unitPages, State.unitPages, toList_four, toList_four]
    simp only [List.flatMap_cons, show t.units[0].pages = s.units[0].pages from same 0,
      show t.units[1].pages = s.units[1].pages from same 1, show t.units[2].pages = s.units[2].pages from same 2,
      show t.units[3].pages = s.units[3].pages from same 3]
  refine (pagesPartitioned_iff t).2 ⟨fun p => ?_, fun k => ⟨fun idle => ?_, fun armed => ?_⟩⟩
  · rw [unitPages, store]
    exact pages p
  · rw [(units k).phase] at idle
    rw [(units k).idle idle]
    exact (held k).idle idle
  · rw [(units k).phase] at armed
    rw [(units k).postPages]
    exact (held k).armed armed

/-! ### Pages that move between the free list and the index (R151, R155, R156) -/

theorem holds_removeRecord {r : CaptureRecord} {s : State} (hr : r ∈ s.store.index) (p : Page) :
    (s.removeRecord r).store.holds p = s.store.holds p := by
  have taken : (s.store.index.flatMap CaptureRecord.pages).count p =
      ((r :: s.store.index.erase r).flatMap CaptureRecord.pages).count p :=
    ((List.perm_cons_erase hr).flatMap_right _).count_eq p
  show (s.store.free ++ r.pages).count p + ((s.store.index.erase r).flatMap CaptureRecord.pages).count p = _
  rw [Store.holds, taken, List.flatMap_cons, List.count_append, List.count_append]
  omega

theorem holds_appendRecord (r : CaptureRecord) (s : State) (p : Page) :
    (s.appendRecord r).store.holds p = s.store.holds p + r.pages.count p := by
  show s.store.free.count p + ((s.store.index ++ [r]).flatMap CaptureRecord.pages).count p = _
  rw [Store.holds, List.flatMap_append, List.count_append, List.flatMap_singleton, Nat.add_assoc]

theorem holds_giveBack (pages : List Page) (s : State) (p : Page) :
    (s.giveBack pages).store.holds p = s.store.holds p + pages.count p := by
  show (s.store.free ++ pages).count p + (s.store.index.flatMap CaptureRecord.pages).count p = _
  rw [Store.holds, List.count_append, Nat.add_right_comm]

/-- R156: a closed capture's pages go to the index with its record, or to the free list. -/
theorem holds_keepOrDrop (r : CaptureRecord) (s : State) (p : Page) :
    (s.keepOrDrop r).1.store.holds p = s.store.holds p + r.pages.count p := by
  have dropped : (s.dropCapture r).store.holds p = s.store.holds p + r.pages.count p := holds_giveBack r.pages s p
  unfold State.keepOrDrop
  split
  · exact holds_appendRecord r s p
  · split
    · exact dropped
    · split
      · rename_i old found
        refine (holds_appendRecord r _ p).trans ?_
        rw [State.notify_store, holds_removeRecord (List.mem_of_find?_eq_some found)]
      · exact dropped

/-- R138: a close moves the unit's pages into the store or the index. -/
theorem holds_closeCapture (k : Fin 4) (s : State) (p : Page) :
    (s.closeCapture k).store.holds p = s.store.holds p + s.units[k].pages.count p := by
  rw [closeCapture_store, holds_keepOrDrop]
  rfl

/-- R150: a granted claim takes its pages out of the free list. -/
theorem holds_claim {k : Nat} {s t : State} {pages : List Page} (e : s.claim k = some (pages, t)) (p : Page) :
    t.store.holds p + pages.count p = s.store.holds p := by
  obtain ⟨-, taken, -, -, -, store, -⟩ := claim_some e
  have split : s.store.free.count p = (s.store.free.take k).count p + (s.store.free.drop k).count p := by
    rw [← List.count_append, List.take_append_drop]
  rw [store, taken, Store.holds, Store.holds, split]
  dsimp only
  omega

theorem holds_markHeld (id : CaptureId) (mark : Bool) (st : Store) (p : Page) :
    Store.holds p { st with index := markHeld id mark st.index } = st.holds p := by
  have same : (markHeld id mark st.index).flatMap CaptureRecord.pages = st.index.flatMap CaptureRecord.pages := by
    rw [markHeld, List.flatMap_map]
    refine List.flatMap_congr fun r _ => ?_
    split <;> rfl
  rw [Store.holds, Store.holds, same]

end Sys2Proof.Machine

namespace Sys2Proof.Machine

/-! ### The pages kept partitioned (R149) -/

/-- From `s` to `t` pages that are partitioned stay so. -/
def PagesKept (s t : State) : Prop := PagesPartitioned s → PagesPartitioned t

namespace PagesKept

variable {s t u : State}

theorem refl (s : State) : PagesKept s s := id

theorem trans (h : PagesKept s t) (g : PagesKept t u) : PagesKept s u := g ∘ h

theorem stands (units : t.units = s.units) (free : t.store.free = s.store.free) (index : t.store.index = s.store.index) :
    PagesKept s t := fun h =>
  h.of_touched (fun k => by rw [units]; exact ⟨rfl, rfl, rfl, fun _ => rfl⟩)
    fun p => by rw [Store.holds, Store.holds, free, index]

/-- A unit's record written that holds the same pages. -/
theorem setUnit {k : Fin 4} {v : UnitState} (hv : UnitHolding v) (pages : v.pages = s.units[k].pages) :
    PagesKept s (s.setUnitState k v) :=
  fun h => h.writeUnit rfl hv fun p => by rw [pages]; rfl

/-- R122: the pages claimed are the pages of the unit armed, which held none. -/
theorem tryArm {k : Fin 4} (idle : s.units[k].phase = .idle) (e : s.tryArm k = some t) : PagesKept s t := by
  intro h
  unfold State.tryArm at e
  split at e
  · rename_i pages v granted
    obtain ⟨-, -, -, units, -, -, -⟩ := claim_some granted
    have busy : (armedUnit s.setup.units[k] pages).phase ≠ .idle := by
      rcases armedUnit_phase s.setup.units[k] pages with ⟨-, phase⟩ | ⟨-, phase⟩ <;> rw [phase] <;> decide
    have none : s.units[k].pages = [] := by rw [h.idle k idle]; rfl
    cases e
    refine h.writeUnit (k := k) (congrArg (put · k _) units) (.of_noPost busy rfl) fun p => ?_
    have claimed : v.store.holds p + pages.count p = s.store.holds p := holds_claim granted p
    have held : (armedUnit s.setup.units[k] pages).pages = pages := List.append_nil _
    rw [none, held, State.setUnitState_store, claimed]
    rfl
  · cases e

theorem raise (id : EventId) (s : State) : PagesKept s (s.raise id) := stands (by simp) (by simp) (by simp)

theorem triggerUnitBy (k : Fin 4) (source : Byte) (word : BitVec 32) (frame : Option FrameNumber) (s : State) :
    PagesKept s (s.triggerUnitBy k source word frame) := by
  have post : PagesKept s (s.setUnitState k (triggered s.setup.units[k] source word frame s.units[k])) :=
    setUnit (.of_post rfl) rfl
  have entered := post.trans (raise (evTriggered k) _)
  unfold State.triggerUnitBy
  split
  · exact refl s
  · exact entered
  · exact entered
  · rename_i inPost
    unfold retriggered
    split
    · exact setUnit (.of_post inPost) rfl
    · exact setUnit (.of_post inPost) rfl

/-- R134: an armed unit holds its ring alone, and gives it back. -/
theorem giveUp {k : Fin 4} (armed : s.units[k].phase = .filling ∨ s.units[k].phase = .armed) : PagesKept s (s.giveUp k) :=
  fun h => h.writeUnit (k := k) rfl clearedUnit_holding fun p => by
    have ring : s.units[k].pages = s.units[k].prePages := by
      rw [UnitState.pages, h.armed k armed, List.append_nil]
    rw [ring]
    exact holds_giveBack s.units[k].prePages s p

theorem closeCapture (k : Fin 4) (s : State) : PagesKept s (s.closeCapture k) :=
  fun h => h.writeUnit (closeCapture_units k s) clearedUnit_holding (holds_closeCapture k s)

theorem flagAndClose {k : Fin 4} (f : CaptureFlags → CaptureFlags) (post : s.units[k].phase = .post) :
    PagesKept s ((s.flagUnit k f).closeCapture k) :=
  have flagged : PagesKept s (s.flagUnit k f) := setUnit (.of_post post) rfl
  flagged.trans (closeCapture k _)

/-- R133: a capture dropped gives back all its pages. -/
theorem discardCapture (k : Fin 4) (s : State) : PagesKept s (s.discardCapture k) :=
  fun h => h.writeUnit (discardCapture_units k s) clearedUnit_holding fun p => by
    rw [State.discardCapture, State.raise_store, State.notify_store]
    exact holds_giveBack s.units[k].pages (s.setUnitState k clearedUnit) p

/-- What the units do outside the handling of a frame keeps the pages partitioned. -/
theorem captureClosed : CaptureClosed PagesKept where
  refl := refl
  trans := trans
  stands g := stands g.units g.free g.index
  touch touched h := h.of_touched (fun k => by rw [tab_get]; exact touched k) fun _ => rfl
  tryArm := tryArm
  triggerUnitBy := triggerUnitBy
  giveUp := giveUp
  flagAndClose := flagAndClose

/-! The handling of a frame (R125, R130 to R133). -/

theorem storeAt (pg : Option Page) (pos : Nat) (mask : BitVec 16) (s : State) : PagesKept s (s.storeAt pg pos mask) := by
  obtain ⟨mem, e⟩ := storeAt_eq pg pos mask s
  rw [e]
  exact stands rfl rfl rfl

/-- R125: a history frame leaves an armed unit armed, with its ring. -/
theorem historyUnit_busy {v : UnitState} (armed : v.phase = .filling ∨ v.phase = .armed) (pre : Nat) (f : FrameNumber) :
    (historyUnit pre f v).phase ≠ .idle := by
  rw [historyUnit_eq]
  dsimp only
  split
  · decide
  · rcases armed with phase | phase <;> rw [phase] <;> decide

theorem storeHistory {k : Fin 4} (armed : s.units[k].phase = .filling ∨ s.units[k].phase = .armed) (f : FrameNumber) :
    PagesKept s (s.storeHistory k f) := by
  by_cases hpre : s.setup.units[k].pre = 0
  · have same : s.storeHistory k f = s := if_pos hpre
    rw [same]
    exact refl s
  · intro h
    rw [storeHistory_eq hpre]
    refine setUnit (.of_noPost (historyUnit_busy armed _ f) (h.armed k armed)) ?_ (storeAt _ _ _ s h)
    rw [storeAt_units]
    rfl

/-- R130: a post frame stored leaves the unit in POST, with its pages. -/
theorem postStored {k : Fin 4} (post : s.units[k].phase = .post) (f : FrameNumber) : PagesKept s (s.postStored k f) := by
  refine (storeAt _ _ _ s).trans (setUnit (.of_post ?_) ?_)
  · rw [postUnit_phase]; exact post
  · rw [UnitState.pages, postUnit_prePages, postUnit_postPages, storeAt_units]; rfl

theorem storePost {k : Fin 4} (post : s.units[k].phase = .post) (f : FrameNumber) : PagesKept s (s.storePost k f) := by
  rw [storePost_eq]
  split
  · exact ((postStored post f).trans (closeCapture k _)).trans (captureClosed.rearm k f _)
  · exact postStored post f

/-- R130 step 1: the page claimed joins the unit's post part. -/
theorem claimPost {k : Fin 4} {pages : List Page} (post : s.units[k].phase = .post) (e : s.claim 1 = some (pages, t)) :
    PagesKept s (t.setUnitState k { s.units[k] with postPages := s.units[k].postPages ++ pages }) := by
  obtain ⟨-, -, -, units, -, -, -⟩ := claim_some e
  refine fun h => h.writeUnit (k := k) (congrArg (put · k _) units) (.of_post post) fun p => ?_
  have claimed : t.store.holds p + pages.count p = s.store.holds p := holds_claim e p
  simp only [UnitState.pages, State.setUnitState_store, List.count_append]
  omega

theorem pageRefused {k : Fin 4} (post : s.units[k].phase = .post) (f : FrameNumber) : PagesKept s (s.pageRefused k f) := by
  unfold State.pageRefused
  split
  · exact (flagAndClose _ post).trans (captureClosed.rearm k f _)
  · exact (discardCapture k s).trans (captureClosed.rearm k f _)

theorem handleFrame (k : Fin 4) (f : FrameNumber) (s : State) : PagesKept s (s.handleFrame k f) := by
  unfold State.handleFrame State.handlePost
  split
  · exact refl s
  · exact storeHistory (.inl (by assumption)) f
  · exact storeHistory (.inr (by assumption)) f
  · rename_i post
    split
    · split
      · rename_i pages t granted
        have opened : (t.setUnitState k { s.units[k] with postPages := s.units[k].postPages ++ pages }).units[k].phase =
            .post := (congrArg UnitState.phase (put_get_self _ _ _)).trans post
        exact (claimPost post granted).trans (storePost opened f)
      · exact pageRefused post f
    · exact storePost post f

/-- R170: after a hard reset all pages are free. -/
theorem afterReset (cause : ResetCause) (pins : ResetPins) (s : State) :
    PagesKept s (State.afterReset cause pins s.image s.pending) := fun _ => by
  refine (pagesPartitioned_iff _).2 ⟨fun p => ?_, fun k => ?_⟩
  · have units : (State.afterReset cause pins s.image s.pending).unitPages = [] := by
      simp [State.unitPages, State.afterReset, UnitState.pages, clearedUnit]
    rw [units, Store.holds, afterReset_free]
    rfl
  · rw [show (State.afterReset cause pins s.image s.pending).units[k] = clearedUnit from replicate_get clearedUnit k]
    exact clearedUnit_holding

theorem rowClosed (c : Instr) : RowClosed c PagesKept where
  toCaptureClosed := captureClosed
  image _ _ _ := stands rfl rfl rfl
  runNumber _ _ _ := stands rfl rfl rfl
  handleFrame _ := handleFrame
  reset _ := afterReset _ _
  clearUnit idle h := setUnit clearedUnit_holding (by rw [h.idle _ idle]) h
  markHeld id mark s h := h.of_touched (fun _ => ⟨rfl, rfl, rfl, fun _ => rfl⟩) (holds_markHeld id mark s.store)
  removeRecord hr h := h.of_touched (fun _ => ⟨rfl, rfl, rfl, fun _ => rfl⟩) (holds_removeRecord hr)

end PagesKept

/-- Settles O7: each operation of a unit moves its pages whole, to or from the free list and the index. -/
theorem stepKeepsPagesPartitioned : Obligations.StepKeepsPagesPartitioned :=
  fun _ _ => step_keeps (fun _ => PagesKept.stands rfl rfl rfl) fun c _ h e => (PagesKept.rowClosed c).exec e h

end Sys2Proof.Machine

namespace Sys2Proof.Machine

/-! ### The words of a record's frames (R119, R160) -/

/-- The address of a word of one of these pages (R149). -/
def InPages (pages : List Page) (x : Nat) : Prop := ∃ pg ∈ pages, pg.val * 512 ≤ x ∧ x < pg.val * 512 + 512

/-- R119: a frame position of a page ends inside the page. -/
theorem position_fits (mask : BitVec 16) (i : Nat) : i % framesPerPage mask * laneCount mask + laneCount mask ≤ 512 := by
  have fit : framesPerPage mask * laneCount mask ≤ 512 := framesPerPage_fit mask
  rcases Nat.eq_zero_or_pos (framesPerPage mask) with none | some
  · have noLanes : laneCount mask = 0 := by
      refine Nat.eq_zero_of_not_pos fun lanes => ?_
      have room : 0 < framesPerPage mask := Nat.div_pos (le_trans (laneCount_le mask) (by decide)) lanes
      omega
    rw [noLanes]
    exact Nat.zero_le _
  · have next := Nat.mul_le_mul_right (laneCount mask) (Nat.mod_lt i some)
    rw [Nat.succ_mul] at next
    omega

theorem readAll_congr {m m' : Memory} {a n : Nat} (h : ∀ x, a ≤ x → x < a + n → Memory.read m x = Memory.read m' x) :
    Memory.readAll m a n = Memory.readAll m' a n := by
  induction n generalizing a with
  | zero => rfl
  | succ n ih =>
    rw [Memory.readAll, Memory.readAll, h a (Nat.le_refl a) (by omega), ih fun x low high => h x (by omega) (by omega)]

/-- R160: the frames of a record are read from the words of its pages alone. -/
theorem frameAt_congr {t u : Store} {r : CaptureRecord}
    (words : ∀ x, InPages r.pages x → Memory.read t.mem x = Memory.read u.mem x) (k : Nat) :
    t.frameAt r k = u.frameAt r k := by
  obtain ⟨i, position⟩ : ∃ i, (r.locate k).2 = i % framesPerPage r.mask := by
    unfold CaptureRecord.locate
    dsimp only
    split
    · exact ⟨_, rfl⟩
    · exact ⟨_, rfl⟩
  unfold Store.frameAt
  split
  · rename_i pg found
    have fits := position_fits r.mask i
    rw [position]
    refine readAll_congr fun x low high => words x ⟨pg, List.mem_of_getElem? found, le_trans (Nat.le_add_right _ _) low, ?_⟩
    refine lt_of_lt_of_le high ?_
    rw [frameAddress, Nat.add_assoc]
    exact Nat.add_le_add_left fits _
  · rfl

/-- R149: no page of a unit is a page of a record. -/
theorem PagesPartitioned.apart {s : State} (h : PagesPartitioned s) {k : Fin 4} {pg : Page} (hu : pg ∈ s.units[k].pages)
    {r : CaptureRecord} (hr : r ∈ s.store.index) : pg ∉ r.pages := by
  have once : (s.store.free ++ s.unitPages ++ s.recordPages).Nodup := h.partition.nodup_iff.2 (List.nodup_finRange 256)
  have unit : s.units[k] ∈ s.units.toList := Vector.mem_toList_iff.2 (Vector.getElem_mem _)
  have held : pg ∈ s.store.free ++ s.unitPages := List.mem_append_right _ (List.mem_flatMap.2 ⟨_, unit, hu⟩)
  exact fun inRecord => List.disjoint_of_nodup_append once held (List.mem_flatMap.2 ⟨r, hr, inRecord⟩)

/-! ### A record that a close does not replace (R156) -/

/-- R156: `n` closes leave the record in the index: it is held, or none is replaced, or each finds room. -/
def Spared (r : CaptureRecord) (n : Nat) (s : State) : Prop :=
  r.held = true ∨ s.setup.store.policy = .keepOld ∨ s.store.index.length + n ≤ 32

theorem Spared.less {r : CaptureRecord} {n : Nat} {s : State} (h : Spared r (n + 1) s) : Spared r n s :=
  h.imp_right (Or.imp_right Nat.le_of_succ_le)

/-- R156: a record that `n + 1` closes leave is left by the first of them, and by `n` after it. -/
theorem keepOrDrop_spares {r : CaptureRecord} {n : Nat} {s : State} (hr : r ∈ s.store.index) (spared : Spared r (n + 1) s)
    (x : CaptureRecord) : r ∈ (s.keepOrDrop x).1.store.index ∧ Spared r n (s.keepOrDrop x).1 := by
  by_cases room : s.store.index.length < 32
  · rw [keepOrDrop_room room]
    refine ⟨List.mem_append_left _ hr, spared.imp_right (Or.imp_right fun places => ?_)⟩
    rw [State.appendRecord, List.length_append, List.length_singleton]
    omega
  · have full := Nat.le_of_not_lt room
    by_cases keeps : s.setup.store.policy = .keepOld
    · rw [keepOrDrop_dropped full (.inl keeps)]
      exact ⟨hr, spared.less⟩
    · have held : r.held = true := spared.resolve_right fun other => other.elim keeps fun places => by omega
      refine ⟨?_, .inl held⟩
      have noRoom : ¬ s.store.index.length < Config.indexPlaces := room
      unfold State.keepOrDrop
      rw [if_neg noRoom]
      split
      · exact hr
      · split
        · rename_i old found
          have differs : r ≠ old := fun same => by
            have unheld := List.find?_some found
            rw [← same, held] at unheld
            cases unheld
          exact List.mem_append_left _ ((List.mem_erase_of_ne differs).2 hr)
        · exact hr

theorem closeCapture_spares {r : CaptureRecord} {n : Nat} {s : State} (hr : r ∈ s.store.index)
    (spared : Spared r (n + 1) s) (k : Fin 4) : r ∈ (s.closeCapture k).store.index ∧ Spared r n (s.closeCapture k) := by
  obtain ⟨kept, safe⟩ := keepOrDrop_spares (s := s.handingOver k) hr spared (closedRecord k s)
  have setup : ((s.handingOver k).keepOrDrop (closedRecord k s)).1.setup = s.setup := (keepOrDrop_only _ _).setup
  rw [Spared, setup] at safe
  rw [Spared, State.closeCapture_setup, closeCapture_store]
  exact ⟨kept, safe⟩

/-! ### The frames of a record during the work of a frame (R149, R155) -/

/-- The record `r` is in the index, `n` closes to come leave it there, and the words of its pages read as in `m`. -/
structure RecordStands (r : CaptureRecord) (m : Memory) (n : Nat) (s : State) : Prop where
  canonical : MemoryCanonical s
  pages     : PagesPartitioned s
  record    : r ∈ s.store.index
  spared    : Spared r n s
  words     : ∀ x, InPages r.pages x → Memory.read s.store.mem x = Memory.read m x

namespace RecordStands

variable {r : CaptureRecord} {m : Memory} {n : Nat} {s t : State}

theorem less (h : RecordStands r m (n + 1) s) : RecordStands r m n s := { h with spared := h.spared.less }

/-- What leaves the words, the index and the setup alone. -/
theorem stands (h : RecordStands r m n s) (pages : PagesKept s t) (setup : t.setup = s.setup)
    (mem : t.store.mem = s.store.mem) (index : t.store.index = s.store.index) : RecordStands r m n t where
  canonical := memoryKept_of_mem mem h.canonical
  pages := pages h.pages
  record := index ▸ h.record
  spared := by rw [Spared, setup, index]; exact h.spared
  words x inside := by rw [mem]; exact h.words x inside

theorem of_store (h : RecordStands r m n s) (pages : PagesKept s t) (setup : t.setup = s.setup) (store : t.store = s.store) :
    RecordStands r m n t := h.stands pages setup (by rw [store]) (by rw [store])

theorem of_timers (h : RecordStands r m n s) (only : OnlyTimers s t) : RecordStands r m n t :=
  h.of_store (PagesKept.captureClosed.stands (.of_timers only)) only.setup only.store

theorem of_link (h : RecordStands r m n s) (only : OnlyLink s t) : RecordStands r m n t :=
  h.of_store (PagesKept.captureClosed.stands (.of_store only.units only.store only.image only.runNumber)) only.setup
    only.store

theorem clock (h : RecordStands r m n s) (e : SckEdge) : RecordStands r m n (s.clock e) :=
  h.of_store (PagesKept.captureClosed.stands (.clock e s)) (clock_only e s).setup (clock_only e s).store

theorem quiet (h : RecordStands r m n s) (periods : Nat) : RecordStands r m n (s.quiet periods) :=
  h.of_store (PagesKept.captureClosed.quiet periods s) (by simp) (by simp)

/-! The operations of a unit. -/

theorem close (h : RecordStands r m (n + 1) s) (k : Fin 4) : RecordStands r m n (s.closeCapture k) := by
  obtain ⟨record, spared⟩ := closeCapture_spares h.record h.spared k
  refine ⟨memoryKept_of_mem (closeCapture_mem k s) h.canonical, PagesKept.closeCapture k s h.pages, record, spared, ?_⟩
  rw [closeCapture_mem]
  exact h.words

theorem flagAndClose (h : RecordStands r m (n + 1) s) {k : Fin 4} (f : CaptureFlags → CaptureFlags)
    (post : s.units[k].phase = .post) : RecordStands r m n ((s.flagUnit k f).closeCapture k) := by
  have flagged : RecordStands r m (n + 1) (s.flagUnit k f) :=
    h.of_store (PagesKept.setUnit (.of_post post) rfl) rfl rfl
  exact flagged.close k

theorem giveUp (h : RecordStands r m n s) {k : Fin 4} (armed : s.units[k].phase = .filling ∨ s.units[k].phase = .armed) :
    RecordStands r m n (s.giveUp k) := h.stands (PagesKept.giveUp armed) rfl rfl rfl

theorem discardCapture (h : RecordStands r m n s) (k : Fin 4) : RecordStands r m n (s.discardCapture k) := by
  refine h.stands (PagesKept.discardCapture k s) (by simp) ?_ ?_
  all_goals
    rw [State.discardCapture, State.raise_store, State.notify_store]
    rfl

theorem armUnitBy (h : RecordStands r m n s) (k : Fin 4) (cause : ArmCause) (frame : FrameNumber) :
    RecordStands r m n (s.armUnitBy k cause frame) := by
  unfold State.armUnitBy State.armOrReport
  split
  · split
    · rename_i idle _ _ armed
      obtain ⟨mem, index⟩ := tryArm_store armed
      exact h.stands (PagesKept.tryArm idle armed) (tryArm_some armed).setup mem index
    · exact h.of_link (notify_only _ s)
  all_goals exact h

theorem rearm (h : RecordStands r m n s) (k : Fin 4) (frame : FrameNumber) : RecordStands r m n (s.rearm k frame) := by
  unfold State.rearm
  split
  · exact h.armUnitBy k _ frame
  · exact h

theorem triggerUnitBy (h : RecordStands r m n s) (k : Fin 4) (source : Byte) (word : BitVec 32)
    (frame : Option FrameNumber) : RecordStands r m n (s.triggerUnitBy k source word frame) :=
  h.of_store (PagesKept.triggerUnitBy k source word frame s) (triggerUnitBy_only k source word frame s).setup
    (triggerUnitBy_store k source word frame s)

/-- R119, R149: a frame written in a page of a unit leaves the words of the record's pages alone. -/
theorem storeAt (h : RecordStands r m n s) {k : Fin 4} {pg : Option Page} (mine : ∀ p, pg = some p → p ∈ s.units[k].pages)
    (mask : BitVec 16) (i : Nat) : RecordStands r m n (s.storeAt pg (i % framesPerPage mask) mask) := by
  cases pg with
  | none => exact h
  | some p =>
    have apart : p ∉ r.pages := h.pages.apart (mine p rfl) h.record
    have fits := position_fits mask i
    refine ⟨writeFrame_memoryKept _ _ _ s h.canonical, PagesKept.storeAt (some p) _ _ s h.pages, h.record, h.spared,
      fun x inside => ?_⟩
    obtain ⟨q, hq, low, high⟩ := inside
    have other : q.val ≠ p.val := fun same => apart (Fin.ext same ▸ hq)
    rw [storeAt_some, writeFrame_read_outside h.canonical]
    · exact h.words x ⟨q, hq, low, high⟩
    · rw [frameAddress, Config.pageWords]
      omega

theorem storeHistory (h : RecordStands r m n s) {k : Fin 4}
    (armed : s.units[k].phase = .filling ∨ s.units[k].phase = .armed) (f : FrameNumber) :
    RecordStands r m n (s.storeHistory k f) := by
  by_cases hpre : s.setup.units[k].pre = 0
  · rw [show s.storeHistory k f = s from if_pos hpre]
    exact h
  · have stored := h.storeAt (k := k) (pg := s.units[k].prePages[s.units[k].ringHead / framesPerPage s.setup.units[k].mask]?)
      (fun p found => List.mem_append_left _ (List.mem_of_getElem? found)) s.setup.units[k].mask s.units[k].ringHead
    have pages := PagesKept.storeHistory armed f h.pages
    rw [storeHistory_eq hpre] at pages ⊢
    exact stored.of_store (fun _ => pages) rfl rfl

theorem postStored (h : RecordStands r m n s) {k : Fin 4} (post : s.units[k].phase = .post) (f : FrameNumber) :
    RecordStands r m n (s.postStored k f) := by
  have stored := h.storeAt (k := k) (pg := s.units[k].postPages[s.units[k].postCount / framesPerPage s.setup.units[k].mask]?)
    (fun p found => List.mem_append_right _ (List.mem_of_getElem? found)) s.setup.units[k].mask s.units[k].postCount
  exact stored.of_store (fun _ => PagesKept.postStored post f h.pages) rfl rfl

theorem storePost (h : RecordStands r m (n + 1) s) {k : Fin 4} (post : s.units[k].phase = .post) (f : FrameNumber) :
    RecordStands r m n (s.storePost k f) := by
  rw [storePost_eq]
  split
  · exact ((h.postStored post f).close k).rearm k f
  · exact (h.postStored post f).less

theorem claimPost (h : RecordStands r m n s) {k : Fin 4} {pages : List Page} (post : s.units[k].phase = .post)
    (e : s.claim 1 = some (pages, t)) :
    RecordStands r m n (t.setUnitState k { s.units[k] with postPages := s.units[k].postPages ++ pages }) := by
  obtain ⟨-, -, only, -, -, store, -⟩ := claim_some e
  refine h.stands (PagesKept.claimPost post e) only.setup ?_ ?_ <;> rw [State.setUnitState_store, store]

theorem pageRefused (h : RecordStands r m (n + 1) s) {k : Fin 4} (post : s.units[k].phase = .post) (f : FrameNumber) :
    RecordStands r m n (s.pageRefused k f) := by
  unfold State.pageRefused
  split
  · exact (h.flagAndClose _ post).rearm k f
  · exact ((h.discardCapture k).rearm k f).less

/-- R120: a frame handled closes its unit at most once. -/
theorem handleFrame (h : RecordStands r m (n + 1) s) (k : Fin 4) (f : FrameNumber) :
    RecordStands r m n (s.handleFrame k f) := by
  unfold State.handleFrame State.handlePost
  split
  · exact h.less
  · exact (h.storeHistory (.inl (by assumption)) f).less
  · exact (h.storeHistory (.inr (by assumption)) f).less
  · rename_i post
    split
    · split
      · rename_i granted
        refine (h.claimPost post granted).storePost ?_ f
        exact (congrArg UnitState.phase (put_get_self _ _ _)).trans post
      · exact h.pageRefused post f
    · exact h.storePost post f

/-- R135: an abort that closes leaves the unit IDLE, so that the frame that follows is not handled. -/
theorem abortAndHandle (h : RecordStands r m (n + 1) s) (k : Fin 4) (f : FrameNumber) :
    RecordStands r m n ((s.abortUnitBy k).handleFrame k f) := by
  unfold State.abortUnitBy
  split
  · exact h.handleFrame k f
  · exact (h.giveUp (.inl (by assumption))).handleFrame k f
  · exact (h.giveUp (.inr (by assumption))).handleFrame k f
  · rename_i post
    rw [handleFrame_idle]
    · exact h.flagAndClose _ post
    · rw [closeCapture_units, put_get_self]
      rfl

/-- R136: a unit's work on a frame closes it at most once. -/
theorem unitWork (h : RecordStands r m (n + 1) s) (fired : List (Fin 48)) (frame : FrameNumber) (word : BitVec 32)
    (k : Fin 4) : RecordStands r m n (s.unitWork fired frame word k) := by
  unfold State.unitWork State.unitAction
  split
  · exact h.abortAndHandle k frame
  · exact (h.triggerUnitBy k _ _ _).handleFrame k frame
  · exact (h.armUnitBy k _ _).handleFrame k frame
  · exact h.handleFrame k frame

end RecordStands

/-! ### The work of a frame, its units counted (R96, R152) -/

/-- A property that allows for `n` units still to work, kept by each happening and passed on by each unit, holds at the end of the work. -/
theorem interleave_counts {Q : Nat → State → Prop} (fired : List (Fin 48)) (frame : FrameNumber) (word : BitVec 32)
    (clock : ∀ {n s} e, Q n s → Q n (State.clock e s)) (quiet : ∀ {n s} p, Q n s → Q n (State.quiet p s))
    (sent : ∀ {n s}, Q n s → Q n s.noticeSent) (timer : ∀ {n s} t, Q n s → Q n (State.timerAction fired t s))
    (event : ∀ {n s} b, Q n s → Q n (State.offerEvent frame word s b))
    (unit : ∀ {n s} k, Q (n + 1) s → Q n (State.unitWork fired frame word s k)) (during : List StreamEvent) :
    ∀ (ts : List (Fin 4)) (ns : List (Fin 48)) (us : List (Fin 4)) (s : State),
      Q us.length s → Q 0 (State.interleave fired frame word during ts ns us s) := by
  have events : ∀ (bs : List (Fin 48)) {n : Nat} {s : State}, Q n s → Q n (bs.foldl (State.offerEvent frame word) s) := by
    intro bs
    induction bs with
    | nil => exact fun h => h
    | cons b bs ih => exact fun h => ih (event b h)
  have timers : ∀ (ts : List (Fin 4)) {n : Nat} {s : State}, Q n s → Q n (ts.foldl (fun a t => a.timerAction fired t) s) := by
    intro ts
    induction ts with
    | nil => exact fun h => h
    | cons t ts ih => exact fun h => ih (timer t h)
  have units : ∀ (us : List (Fin 4)) {s : State}, Q us.length s → Q 0 (us.foldl (State.unitWork fired frame word) s) := by
    intro us
    induction us with
    | nil => exact fun h => h
    | cons k us ih => exact fun h => ih (unit k h)
  induction during with
  | nil => exact fun ts ns us s h => units us (events ns (timers ts h))
  | cons happening rest ih =>
    intro ts ns us s h
    cases happening with
    | edge e => exact ih _ _ _ _ (clock e h)
    | quiet p => exact ih _ _ _ _ (quiet p h)
    | noticeSent => exact ih _ _ _ _ (sent h)
    | timer t =>
      refine ih _ _ _ _ ?_
      split
      · exact timer t h
      · exact h
    | event => exact ih _ _ _ _ (events _ h)
    | unit =>
      refine ih _ _ _ _ ?_
      cases us with
      | nil => exact h
      | cons k us => exact unit k h

theorem linedFrame_store (f : HeldFrame) (s : State) : (s.linedFrame f).store = s.store :=
  (lineActions_only _ _).store.trans (conditionActions_only _ _).store

/-- R149, R155: the work of a frame leaves the frames of a record that none of its closes can replace. -/
theorem RecordStands.workFrame {r : CaptureRecord} {m : Memory} {s : State} (h : RecordStands r m 4 s) (f : HeldFrame)
    (during : List StreamEvent) : RecordStands r m 0 (s.workFrame f during) := by
  have lined : RecordStands r m 4 (s.linedFrame f) :=
    h.of_store (PagesKept.captureClosed.linedFrame f s) (linedFrame_setup f s) (linedFrame_store f s)
  rw [workFrame_lined]
  exact interleave_counts (s.firedAt f) f.number (conditionWord (s.conditionsAt f)) (fun e h => h.clock e)
    (fun p h => h.quiet p) (fun h => h.of_link (noticeSent_only _)) (fun t h => h.of_timers (timerAction_only _ t _))
    (fun b h => h.of_link (offerEvent_only _ _ _ b)) (fun k h => h.unitWork _ _ _ k) during _ _ (List.finRange 4) _ lined

/-- Settles O13: outside the work of a frame no word changes, a hard reset empties the index, and in the work of a frame the words written lie in pages of units. -/
theorem recordsKeepTheirFrames : Obligations.RecordsKeepTheirFrames := by
  intro c s t r canonical pages _ e before after spared k _
  by_cases takes : ∃ during, c = .take during
  · obtain ⟨during, rfl⟩ := takes
    have stands : RecordStands r s.store.mem 4 s := ⟨canonical, pages, before, spared during rfl, fun _ _ => rfl⟩
    change execTake during s = .next t at e
    unfold execTake at e
    split at e <;> cases e
    · exact frameAt_congr (stands.workFrame _ during).words k
    · rfl
    · rfl
  by_cases resets : ∃ cause pins, c = .hardReset cause pins
  · obtain ⟨cause, pins, rfl⟩ := resets
    cases e
    exact absurd after List.not_mem_nil
  have mem := (memoryStands_rowClosed (fun d h => takes ⟨d, h⟩) fun cause pins h => resets ⟨cause, pins, h⟩).exec e
  exact frameAt_congr (fun x _ => by rw [mem]) k

end Sys2Proof.Machine

namespace Sys2Proof.Machine

/-! ### A capture named by its id (R155, R157) -/

/-- Settles O52: among 33 values in a row one is free, and the search stops at the first. -/
theorem assignedIdIsTheFirstFree : Obligations.AssignedIdIsTheFirstFree := by
  intro t count next
  obtain ⟨n, within, found, free, before⟩ := assigned_first_free count next
  refine ⟨n, within, found, ?_, fun r hr same => free (List.mem_map.2 ⟨r, hr, same⟩),
    fun j hj => List.mem_map.1 (before j hj)⟩
  rw [found]
  exact nextFromOne_iterate_ne_zero next n

/-- R186: the two bytes of an id name it. -/
theorem readId_bytes (id : CaptureId) : readId (BitVec.ofNat 8 id.toNat) (BitVec.ofNat 8 (id.toNat / 256)) = id := by
  have value := (leNat_leBytes 2 id.toNat).trans (Nat.mod_eq_of_lt id.isLt)
  have read : readId (BitVec.ofNat 8 id.toNat) (BitVec.ofNat 8 (id.toNat / 256)) = BitVec.ofNat 16 id.toNat :=
    congrArg (BitVec.ofNat 16) value
  rw [read, BitVec.ofNat_toNat, BitVec.setWidth_eq]

theorem findRecord_unknown {id : CaptureId} {index : List CaptureRecord} (h : ∀ r ∈ index, r.id ≠ id) :
    findRecord id index = none :=
  List.find?_eq_none.2 fun r hr named => h r hr (eq_of_beq named)

/-- R155: no other record of a consistent index has the id of a record. -/
theorem IndexConsistent.others {s : State} (h : IndexConsistent s) {before after : List CaptureRecord} {r : CaptureRecord}
    (split : s.store.index = before ++ r :: after) : (∀ x ∈ before, x.id ≠ r.id) ∧ ∀ x ∈ after, x.id ≠ r.id := by
  have once := h.ids
  rw [split, List.map_append, List.map_cons, List.nodup_append] at once
  obtain ⟨-, rest, apart⟩ := once
  exact ⟨fun x hx => apart _ (List.mem_map_of_mem hx) _ List.mem_cons_self,
    fun x hx same => (List.nodup_cons.1 rest).1 (same ▸ List.mem_map_of_mem hx)⟩

theorem findRecord_split {before after : List CaptureRecord} {r : CaptureRecord} (h : ∀ x ∈ before, x.id ≠ r.id) :
    findRecord r.id (before ++ r :: after) = some r := by
  have none : before.find? (fun x => x.id == r.id) = none := findRecord_unknown h
  rw [findRecord, List.find?_append, none, Option.none_or]
  exact List.find?_cons_of_pos (beq_self_eq_true r.id)

theorem IndexConsistent.findRecord_mem {s : State} (h : IndexConsistent s) {r : CaptureRecord} (hr : r ∈ s.store.index) :
    findRecord r.id s.store.index = some r := by
  obtain ⟨before, after, split⟩ := List.append_of_mem hr
  rw [split]
  exact findRecord_split (h.others split).1

theorem markHeld_others {id : CaptureId} {mark : Bool} {index : List CaptureRecord} (h : ∀ x ∈ index, x.id ≠ id) :
    markHeld id mark index = index :=
  (List.map_congr_left fun x hx => if_neg (mt eq_of_beq (h x hx))).trans (List.map_id index)

/-- R164: the held mark is written in the named record alone. -/
theorem markHeld_split {before after : List CaptureRecord} {r : CaptureRecord} (mark : Bool)
    (others : (∀ x ∈ before, x.id ≠ r.id) ∧ ∀ x ∈ after, x.id ≠ r.id) :
    markHeld r.id mark (before ++ r :: after) = before ++ { r with held := mark } :: after := by
  obtain ⟨first, last⟩ := others
  have unchangedFirst := markHeld_others (mark := mark) first
  have unchangedLast := markHeld_others (mark := mark) last
  unfold markHeld at unchangedFirst unchangedLast ⊢
  rw [List.map_append, List.map_cons, unchangedFirst, unchangedLast, if_pos (beq_self_eq_true r.id)]

/-- R151, R165: a record taken out of the index: its pages are free, and the rest of the index closes up. -/
theorem removeRecord_split {s : State} {before after : List CaptureRecord} {r : CaptureRecord}
    (split : s.store.index = before ++ r :: after) (others : ∀ x ∈ before, x.id ≠ r.id) :
    s.removeRecord r =
      { s with
        store := { s.store with
          index := before ++ after
          free := s.store.free ++ r.pages
          low := lowState (s.store.free.length + r.pages.length) s.setup.store.lowWater } } := by
  have new : r ∉ before := fun hr => others r hr rfl
  have closed : s.store.index.erase r = before ++ after := by
    rw [split, List.erase_append_right _ new, List.erase_cons_head]
  rw [State.removeRecord, closed, State.giveBack, List.length_append]

/-! ### The requests that name a capture (R162 to R165) -/

/-- R177: a request carried out leaves what its action leaves, with the answer settled. -/
theorem serve_answers {s t : State} {kind : Byte} {payload : List Byte} {act : List Byte → State → State × Answer}
    {a : Answer} (h : Serves s kind payload) (acts : act payload s = (t, a)) :
    (.next (serve kind act s) : Host.Outcome State Fault Refusal) = .next (t.answer a) := by
  rw [serve_serves act h, acts]

section
variable {s : State} {id : CaptureId} {r : CaptureRecord}

theorem getCapture_unknown (h : findRecord id s.store.index = none) :
    getCapture (leBytes 2 id.toNat) s = (s, refusal .notFound) := by
  simp only [leBytes, getCapture, readId_bytes, h]

theorem getCapture_found (h : findRecord id s.store.index = some r) :
    getCapture (leBytes 2 id.toNat) s = (s, okay r.summary) := by
  simp only [leBytes, getCapture, readId_bytes, h]

theorem readFrames_unknown (h : findRecord id s.store.index = none) (o0 o1 o2 count : Byte) :
    readFrames (leBytes 2 id.toNat ++ [o0, o1, o2, count]) s = (s, refusal .notFound) := by
  simp only [leBytes, List.cons_append, List.nil_append, readFrames, readId_bytes, h]

theorem holdCapture_unknown (h : findRecord id s.store.index = none) (mark : Byte) :
    holdCapture (leBytes 2 id.toNat ++ [mark]) s = (s, refusal .notFound) := by
  simp only [leBytes, List.cons_append, List.nil_append, holdCapture, readId_bytes, h]

theorem holdCapture_found (h : findRecord id s.store.index = some r) (mark : Bool) :
    holdCapture (leBytes 2 id.toNat ++ [yesNo mark]) s =
      ({ s with store := { s.store with index := markHeld r.id mark s.store.index } }, okay [yesNo mark]) := by
  simp only [leBytes, List.cons_append, List.nil_append, holdCapture, readId_bytes, h, readYesNo_yesNo]

theorem releaseCapture_unknown (h : findRecord id s.store.index = none) :
    releaseCapture (leBytes 2 id.toNat) s = (s, refusal .notFound) := by
  simp only [leBytes, releaseCapture, readId_bytes, h]

theorem releaseCapture_found (h : findRecord id s.store.index = some r) :
    releaseCapture (leBytes 2 id.toNat) s =
      (s.removeRecord r, okay (leBytes 2 r.pages.length ++ leBytes 2 (s.removeRecord r).store.free.length)) := by
  simp only [leBytes, releaseCapture, readId_bytes, h]

/-- R163: an offset of 3 bytes is read as it was written. -/
theorem leNat_offset {offset : Nat} (h : offset < 16777216) :
    leNat [BitVec.ofNat 8 offset, BitVec.ofNat 8 (offset / 256), BitVec.ofNat 8 (offset / 256 / 256)] = offset :=
  (leNat_leBytes 3 offset).trans (Nat.mod_eq_of_lt h)

theorem readFrames_beyond (h : findRecord id s.store.index = some r) {offset : Nat} (small : offset < 16777216)
    (beyond : r.frames ≤ offset) (count : Byte) :
    readFrames (leBytes 2 id.toNat ++ leBytes 3 offset ++ [count]) s = (s, refusal .badValue) := by
  simp only [leBytes, List.cons_append, List.nil_append, readFrames, readId_bytes, h, leNat_offset small, if_pos beyond]

theorem readFrames_within (h : findRecord id s.store.index = some r) {offset : Nat} (small : offset < 16777216)
    (inside : ¬ r.frames ≤ offset) (count : Byte) :
    readFrames (leBytes 2 id.toNat ++ leBytes 3 offset ++ [count]) s =
      (s, okay (leBytes 2 r.id.toNat ++ leBytes 3 offset ++ [BitVec.ofNat 8 (readCount r offset count.toNat)]
        ++ s.store.frameBytes r offset (readCount r offset count.toNat))) := by
  simp only [leBytes, List.cons_append, List.nil_append, readFrames, readId_bytes, h, leNat_offset small, if_neg inside]

end

/-! ### Readout (R160, R162, R163) -/

/-- R163: the frames from an offset on, as one list. -/
theorem frameBytes_eq (t : Store) (r : CaptureRecord) (offset n : Nat) :
    t.frameBytes r offset n = (List.range n).flatMap fun i => (t.frameAt r (offset + i)).flatMap laneBytes := by
  induction n generalizing offset with
  | zero => rfl
  | succ n ih =>
    rw [Store.frameBytes, ih, List.range_succ_eq_map, List.flatMap_cons, List.flatMap_map]
    congr 1
    refine List.flatMap_congr fun i _ => ?_
    rw [Nat.succ_eq_add_one, Nat.add_assoc, Nat.add_comm 1 i]

/-- R163: a count of 0 asks for all the frames from the offset on. -/
theorem readCount_byte (r : CaptureRecord) (offset : Nat) (count : Byte) :
    readCount r offset count.toNat =
      min (if count = 0 then r.preCount + r.postCount - offset else count.toNat)
        (min (241 / (3 * laneCount r.mask)) (r.preCount + r.postCount - offset)) := by
  have zero : count.toNat = 0 ↔ count = 0 := ⟨fun h => BitVec.eq_of_toNat_eq h, fun h => congrArg BitVec.toNat h⟩
  rw [readCount, CaptureRecord.frames, if_congr zero rfl rfl, Config.readBytes]

/-- Settles O57: each request looks the record up by its id, and the frames are read where the record locates them. -/
theorem captureReadout : Obligations.CaptureReadout := by
  intro s
  refine ⟨fun h => serve_reports h rfl, ?_, ?_, ?_, ?_, ?_⟩
  · intro id h unknown
    exact serve_answers h (getCapture_unknown (findRecord_unknown unknown))
  · intro id unknown
    have none := findRecord_unknown unknown
    refine ⟨fun o0 o1 o2 count h => ?_, fun mark h => ?_, fun h => ?_⟩
    · exact serve_answers h (readFrames_unknown none o0 o1 o2 count)
    · exact serve_answers h (holdCapture_unknown none mark)
    · exact serve_answers h (releaseCapture_unknown none)
  · intro r _ k pg _
    refine ⟨?_, ?_⟩
    · rintro pre place rfl page
      exact frameAt_pre pre page
    · rintro j rfl page
      exact frameAt_post page
  · intro r hr consistent h
    refine serve_answers h ((getCapture_found (consistent.findRecord_mem hr)).trans ?_)
    simp only [CaptureRecord.summary, List.append_assoc, List.cons_append, List.nil_append]
  · intro r hr offset count consistent small h
    have found := consistent.findRecord_mem hr
    refine ⟨fun beyond => serve_answers h (readFrames_beyond found small beyond count), ?_⟩
    rintro m inside rfl
    have reads := readFrames_within found small (Nat.not_le.2 inside) count
    rw [frameBytes_eq, readCount_byte] at reads
    exact serve_answers h reads

/-! ### Hold, release and the settings of the store (R164, R165, R167, R168) -/

theorem codeOf_lowWater (x : LowWater) : codeOf LowWater.codes x = if x = .low then 1 else 0 := by
  cases x <;> rfl

/-- R154, R167: SET_STORE takes any settings in range, and the low-water state follows them at once. -/
theorem setStore_bytes {u : StoreSetup} (small : u.lowWater ≤ 255) (s : State) :
    setStore u.bytes s =
      (State.markLow { s with setup := { s.setup with store := u } },
        okay [codeOf LowWater.codes (lowState s.store.free.length u.lowWater)]) := by
  have read : readStore u.bytes = some u := (readStore_iff _ _).2 ⟨small, rfl⟩
  have two : ¬ u.bytes.length ≠ 2 := not_not.2 rfl
  rw [setStore, if_neg two, read]
  rfl

/-- Settles O58: the record is split out of the index by its id; the settings of the store are read back from their own bytes. -/
theorem holdReleaseAndStoreSettings : Obligations.HoldReleaseAndStoreSettings := by
  refine ⟨fun s before after r consistent split => ?_, fun s => ⟨?_, ?_⟩⟩
  · have others := consistent.others split
    have found : findRecord r.id s.store.index = some r := by
      rw [split]
      exact findRecord_split others.1
    refine ⟨fun mark h => ?_, fun h => ?_⟩
    · have held := holdCapture_found found mark
      rw [split, markHeld_split mark others] at held
      exact serve_answers h held
    · have released := releaseCapture_found found
      rw [removeRecord_split split others.1, List.length_append] at released
      exact serve_answers h released
  · rintro u small h state rfl
    have set := setStore_bytes small s
    rw [codeOf_lowWater] at set
    exact serve_answers h set
  · intro h
    refine serve_reports h ?_
    rw [getStore, codeOf_lowWater]

end Sys2Proof.Machine

namespace Sys2Proof.Machine

/-! ### The queues of the link kept consistent (R176, R177, R180 to R183) -/

/-- What `LinkConsistent` says of a state, said of its link. -/
structure Link.Consistent (l : Link) : Prop where
  requests   : l.requests.length ≤ 2
  replies    : l.replies.length ≤ 4
  notices    : l.notices.length ≤ 16
  dispatcher : l.dispatcher = .idle ↔ l.requests = []
  sending    : l.sending

theorem linkConsistent_iff (s : State) : LinkConsistent s ↔ s.link.Consistent :=
  ⟨fun h => ⟨h.requests, h.replies, h.notices, h.dispatcher, h.sending⟩,
    fun h => ⟨h.requests, h.replies, h.notices, h.dispatcher, h.sending⟩⟩

namespace Link.Consistent

variable {l m : Link}

/-- The queues, the dispatcher and the transmitter stand: the receiver and the counts are free. -/
theorem stands (h : l.Consistent) (requests : m.requests = l.requests) (replies : m.replies = l.replies)
    (notices : m.notices = l.notices) (dispatcher : m.dispatcher = l.dispatcher)
    (transmitter : m.transmitter = l.transmitter) : m.Consistent where
  requests := by rw [requests]; exact h.requests
  replies := by rw [replies]; exact h.replies
  notices := by rw [notices]; exact h.notices
  dispatcher := by rw [requests, dispatcher]; exact h.dispatcher
  sending := by
    have sending := h.sending
    unfold Link.sending at sending ⊢
    rw [replies, notices, transmitter]
    exact sending

/-- The dispatcher busy in another way, while a request waits. -/
theorem busy (h : l.Consistent) {d : Dispatcher} (busy : d ≠ .idle) (waits : l.requests ≠ []) :
    Link.Consistent { l with dispatcher := d } :=
  ⟨h.requests, h.replies, h.notices, iff_of_false busy waits, h.sending⟩

theorem waits (h : l.Consistent) (busy : l.dispatcher ≠ .idle) : l.requests ≠ [] := mt h.dispatcher.2 busy

/-! The receiver (R174 to R176). -/

theorem enqueue (h : l.Consistent) (q : Request) (room : l.requests.length < 2) : (l.enqueue q).Consistent where
  requests := by
    show (l.requests ++ [q]).length ≤ 2
    rw [List.length_append]
    exact room
  replies := h.replies
  notices := h.notices
  dispatcher := by
    refine iff_of_false ?_ (List.append_ne_nil_of_right_ne_nil _ (List.cons_ne_nil q []))
    unfold Link.enqueue
    dsimp only
    split <;> exact nofun
  sending := h.sending

theorem placeReply (h : l.Consistent) (r : Reply) (room : l.replies.length < 4) : (l.placeReply r).Consistent where
  requests := by rw [placeReply_requests]; exact h.requests
  replies := by
    rw [placeReply_replies, List.length_append]
    exact room
  notices := by rw [placeReply_notices]; exact h.notices
  dispatcher := by rw [placeReply_requests, placeReply_dispatcher]; exact h.dispatcher
  sending := placeReply_sending r l h.sending

theorem offer (h : l.Consistent) (starting : Bool) (q : Request) : (l.offer starting q).Consistent := by
  unfold Link.offer
  split
  · exact h.enqueue q (by assumption)
  · split
    · rename_i room
      rw [Bool.and_eq_true, decide_eq_true_eq] at room
      exact h.placeReply _ room.2
    · exact h.stands rfl rfl rfl rfl rfl

theorem hunt (h : l.Consistent) : l.hunt.Consistent := h.stands rfl rfl rfl rfl rfl

theorem rxTo (h : l.Consistent) (st : RxState) : (l.rxTo st).Consistent := h.stands rfl rfl rfl rfl rfl

theorem endMessage (h : l.Consistent) (starting : Bool) (len : Nat) (body : List Byte) (received : Nat) :
    (l.endMessage starting len body received).Consistent := by
  unfold Link.endMessage
  split
  · split
    · exact h.hunt.offer starting _
    · exact h.hunt
  · exact h.stands rfl rfl rfl rfl rfl

theorem takeByte (h : l.Consistent) (starting : Bool) (b : Byte) : (l.takeByte starting b).Consistent := by
  unfold Link.takeByte
  split
  · split
    · exact h.rxTo _
    · exact h
  · split
    · exact h.rxTo _
    · exact h.stands rfl rfl rfl rfl rfl
  · split <;> exact h.rxTo _
  · exact h.rxTo _
  · exact h.endMessage starting _ _ _

theorem lineByte (h : l.Consistent) (starting : Bool) (b : LrxByte) : (l.lineByte starting b).Consistent := by
  unfold Link.lineByte
  dsimp only
  split
  · exact h
  · split
    · exact takeByte (l := { l with receiver := { l.receiver with awaitHigh := !b.stop } })
        (h.stands rfl rfl rfl rfl rfl) starting _
    · exact h.stands rfl rfl rfl rfl rfl

theorem silence (h : l.Consistent) (periods : Nat) : (l.silence periods).Consistent := by
  unfold Link.silence
  split
  · exact h
  all_goals split <;> exact h.stands rfl rfl rfl rfl rfl

/-! The transmitter and the notices (R181 to R183). -/

/-- R181, R182: a message gone out leaves its queue, and the transmitter chooses anew. -/
theorem sent (h : l.Consistent) : l.sent.Consistent := by
  have chosen : ∀ {replies notices}, replies.length ≤ 4 → notices.length ≤ 16 →
      (Link.choose { l with replies := replies, notices := notices }).Consistent := fun hr hn =>
    ⟨by rw [choose_requests]; exact h.requests, by rw [choose_replies]; exact hr, by rw [choose_notices]; exact hn,
      by rw [choose_requests, choose_dispatcher]; exact h.dispatcher, choose_sending _⟩
  unfold Link.sent
  split
  · exact h
  · exact chosen ((List.tail_sublist _).length_le.trans h.replies) h.notices
  · exact chosen h.replies ((List.tail_sublist _).length_le.trans h.notices)

theorem noticeSent (h : l.Consistent) : l.noticeSent.Consistent := by
  unfold Link.noticeSent
  split
  · exact h
  · exact h
  · exact h.sent

theorem offerNotice (h : l.Consistent) (n : Notice) : (l.offerNotice n).Consistent where
  requests := by rw [offerNotice_requests]; exact h.requests
  replies := by rw [offerNotice_replies]; exact h.replies
  notices := by
    rw [offerNotice_notices]
    split
    · rw [List.length_append]; assumption
    · exact h.notices
  dispatcher := by rw [offerNotice_requests, offerNotice_dispatcher]; exact h.dispatcher
  sending := offerNotice_sending n l h.sending

/-! The dispatcher (R177, R180). -/

theorem requestDone (h : l.Consistent) : l.requestDone.Consistent where
  requests := (List.tail_sublist _).length_le.trans h.requests
  replies := h.replies
  notices := h.notices
  dispatcher := by
    unfold Link.requestDone
    cases l.requests.tail <;> simp
  sending := h.sending

/-- R180: a reply is placed where there is room, and otherwise held by a dispatcher that is busy with its request. -/
theorem settle (h : l.Consistent) (r : Reply) (waits : l.requests ≠ []) : (l.settle r).Consistent := by
  rcases Link.settle_cases r l with ⟨room, e⟩ | ⟨-, e⟩ <;> rw [e]
  · exact (h.placeReply r room).requestDone
  · exact h.busy nofun waits

end Link.Consistent

/-- R177: the request that the dispatcher may carry out waits in front of the queue. -/
theorem requests_of_current {s : State} {q : Request} (h : s.current = some q) : ∃ rest, s.link.requests = q :: rest := by
  unfold State.current at h
  split at h
  · exact List.head?_eq_some_iff.1 h
  · cases h

/-- From `s` to `t` a consistent link stays consistent. -/
def LinkKept (s t : State) : Prop := s.link.Consistent → t.link.Consistent

theorem linkKept_of_link {s t : State} (link : t.link = s.link) : LinkKept s t := fun h => by
  rw [link]
  exact h

theorem linkKept_unitClosed : UnitClosed LinkKept where
  refl _ := id
  trans h g := g ∘ h
  raise _ _ := linkKept_of_link (by simp)
  notify n _ := fun h => h.offerNotice n
  setUnit _ _ _ := linkKept_of_link rfl
  store _ _ := linkKept_of_link rfl

theorem linkKept_streamClosed : StreamClosed LinkKept where
  refl _ := id
  trans h g := g ∘ h
  raise _ _ := linkKept_of_link (by simp)
  notify n _ := fun h => h.offerNotice n
  iface _ _ := linkKept_of_link rfl
  timers _ _ := linkKept_of_link rfl
  units _ _ := linkKept_of_link rfl

namespace LinkKept

variable {s t u : State}

theorem refl (s : State) : LinkKept s s := id

theorem trans (h : LinkKept s t) (g : LinkKept t u) : LinkKept s u := g ∘ h

theorem notify (n : Notice) (s : State) : LinkKept s (s.notify n) := linkKept_unitClosed.notify n s

theorem answer (a : Answer) (s : State) : LinkKept s (s.answer a) := by
  intro h
  unfold State.answer
  split
  · rename_i waiting
    exact h.settle _ (waiting ▸ List.cons_ne_nil _ _)
  · exact h

theorem receive (bytes : List LrxByte) (s : State) : LinkKept s (s.receive bytes) := by
  show s.link.Consistent → (bytes.foldl (fun l b => l.lineByte s.starting b) s.link).Consistent
  generalize s.link = l
  induction bytes generalizing l with
  | nil => exact id
  | cons b bs ih => exact fun h => ih _ (h.lineByte s.starting b)

/-- The dispatcher turns to another stage of the request in front. -/
theorem dispatcherTo {d : Dispatcher} (busy : d ≠ .idle) (waits : s.link.requests ≠ []) :
    LinkKept s (s.dispatcherTo d) := fun h => h.busy busy waits

theorem clockAll (edges : List SckEdge) (s : State) : LinkKept s (s.clockAll edges) :=
  linkKept_streamClosed.clockAll edges s

/-- R16, R96: the work of a frame, whatever falls into it. -/
theorem workFrame (f : HeldFrame) (during : List StreamEvent) (s : State) : LinkKept s (s.workFrame f during) := by
  have lined : LinkKept s (s.linedFrame f) :=
    linkKept_of_link ((lineActions_only _ _).link.trans (conditionActions_only _ _).link)
  rw [workFrame_lined]
  exact lined.trans (interleave_keeps _ _ _ refl (fun _ _ _ => trans) linkKept_streamClosed.clock
    linkKept_streamClosed.quiet (fun _ h => h.noticeSent)
    (fun t a => linkKept_of_link (timerAction_only _ t a).link) (fun _ a => notify _ a)
    (fun k a => linkKept_unitClosed.unitWork _ _ _ a k) _ _ _ _ _)

/-! Runs, stops and setups taken up as a whole (R191 to R193, R198, R199). -/

theorem startRun (s : State) : LinkKept s s.startRun := by
  have prepared : LinkKept s s.prepareRun := linkKept_of_link rfl
  exact (prepared.trans (linkKept_unitClosed.foldl linkKept_unitClosed.armAtRun (List.finRange 4) _)).trans
    (linkKept_of_link rfl)

theorem stopEngine (s : State) : LinkKept s s.stopEngine := by
  have halted : LinkKept s s.haltBlocks := linkKept_of_link rfl
  exact halted.trans (linkKept_unitClosed.foldl (fun a k => linkKept_unitClosed.stopUnit k a) _ _)

theorem takeUp (u : Setup) (s : State) : LinkKept s (s.takeUp u) := linkKept_of_link (State.takeUp_link u s)

theorem comeUp (cause : ReadyCause) (s : State) : LinkKept s (s.comeUp cause) := by
  unfold State.comeUp
  dsimp only
  split
  · exact (notify _ s).trans (startRun _)
  · exact notify _ s
  · exact notify _ s

theorem startupRead (cause : ReadyCause) (u : Setup) (s : State) :
    LinkKept s (State.comeUp cause { s.takeUp u with startup := none }) := by
  have started : LinkKept (s.takeUp u) { s.takeUp u with startup := none } := linkKept_of_link rfl
  exact ((takeUp u s).trans started).trans (comeUp cause _)

/-- R198: the reply is placed at once, and the dispatcher stays busy with the RESTART request. -/
theorem beginRestart (q : Request) (waits : s.link.requests ≠ []) (room : s.link.replies.length < 4) :
    LinkKept s (s.beginRestart q) := by
  have placed : LinkKept s { s with link := s.link.placeReply (replyTo q (okay [])) } := fun h => h.placeReply _ room
  have waiting : (s.link.placeReply (replyTo q (okay []))).requests ≠ [] := by
    rw [Link.placeReply_requests]
    exact waits
  unfold State.beginRestart
  dsimp only
  split
  · refine (placed.trans (stopEngine _)).trans (dispatcherTo nofun ?_)
    rw [(stopEngine_controlStands _).requests]
    exact waiting
  · exact placed.trans (dispatcherTo nofun waiting)

theorem endRestart (s : State) : LinkKept s s.endRestart := by
  have cleared : ∀ t : State, LinkKept t t.clearRuntime := fun t => linkKept_of_link rfl
  exact (((takeUp _ s).trans (cleared _)).trans (comeUp .restart _)).trans fun h => h.requestDone

theorem endSave (copy : Setup) (verified : Bool) (s : State) : LinkKept s (s.endSave copy verified) := by
  have imaged : ∀ i, LinkKept s { s with image := i } := fun _ => linkKept_of_link rfl
  unfold State.endSave
  dsimp only
  split
  · exact (imaged _).trans (answer _ _)
  · exact answer _ s

theorem endLoad (s : State) : LinkKept s s.endLoad := by
  unfold State.endLoad
  split
  · exact (takeUp _ s).trans (answer _ _)
  · exact answer _ s
  · exact answer _ s

/-- R187: after a hard reset nothing waits and nothing is sent. -/
theorem afterReset (cause : ResetCause) (pins : ResetPins) (s : State) :
    LinkKept s (State.afterReset cause pins s.image s.pending) := fun _ =>
  ⟨Nat.zero_le _, Nat.zero_le _, Nat.zero_le _, iff_of_true rfl rfl, rfl, rfl⟩

end LinkKept

/-! ### The requests that leave the link -/

theorem setPort_link (p : List Byte) (s : State) : (setPort p s).1.link = s.link := by
  rcases setPort_cases p s with e | ⟨u, -, -, e, -⟩ <;> rw [e]

theorem setMeasure_link (p : List Byte) (s : State) : (setMeasure p s).1.link = s.link := by
  rcases setMeasure_cases p s with e | ⟨m, u, -, -, e⟩ <;> rw [e]

theorem setCondition_link (p : List Byte) (s : State) : (setCondition p s).1.link = s.link := by
  rcases setCondition_cases p s with e | ⟨c, u, -, -, e⟩ <;> rw [e]

theorem setTimer_link (p : List Byte) (s : State) : (setTimer p s).1.link = s.link := by
  rcases setTimer_cases p s with e | ⟨k, u, -, -, e⟩ <;> rw [e]

theorem setBinding_link (p : List Byte) (s : State) : (setBinding p s).1.link = s.link := by
  rcases setBinding_cases p s with e | ⟨b, r, -, e⟩ <;> rw [e]

theorem setUnit_link (p : List Byte) (s : State) : (setUnit p s).1.link = s.link := by
  rcases setUnit_cases p s with e | ⟨k, u, -, -, e⟩ <;> rw [e]
  rw [State.setUnitState_link]

theorem setLine_link (p : List Byte) (s : State) : (setLine p s).1.link = s.link := by
  rcases setLine_cases p s with e | ⟨o, u, e⟩ | ⟨i, f, -, e⟩ <;> rw [e]
  rw [State.refilter_link]

theorem setStore_link (p : List Byte) (s : State) : (setStore p s).1.link = s.link := by
  rcases setStore_cases p s with e | ⟨u, -, e⟩ <;> rw [e]
  rw [State.markLow_link]

theorem autorunRequest_link (p : List Byte) (s : State) : (autorunRequest p s).1.link = s.link := by
  rcases autorunRequest_cases p s with e | ⟨b, e⟩ <;> rw [e]

theorem defaultRequest_link (p : List Byte) (s : State) : (defaultRequest p s).1.link = s.link := by
  rcases defaultRequest_cases p s with e | ⟨-, e⟩ <;> rw [e]
  rw [State.takeUp_link]

theorem conditionRequest_link (op : ConditionSetup → ConditionState → ConditionState) (p : List Byte) (s : State) :
    (conditionRequest op p s).1.link = s.link := by
  rcases conditionRequest_cases op p s with e | ⟨c, -, e⟩ <;> rw [e]
  rw [State.onCondition_link]

theorem timerRequest_link (op : TimerSetup → TimerState → TimerState) (p : List Byte) (s : State) :
    (timerRequest op p s).1.link = s.link := by
  rcases timerRequest_cases op p s with e | ⟨k, -, e⟩ <;> rw [e]
  rw [State.onTimer_link]

theorem driveLine_link (p : List Byte) (s : State) : (driveLine p s).1.link = s.link := by
  rcases driveLine_cases p s with e | ⟨op, o, e⟩ <;> rw [e]
  rw [State.onLine_link]

theorem holdCapture_link (p : List Byte) (s : State) : (holdCapture p s).1.link = s.link := by
  rcases holdCapture_cases p s with e | ⟨r, -, mark, e⟩ <;> rw [e]

theorem releaseCapture_link (p : List Byte) (s : State) : (releaseCapture p s).1.link = s.link := by
  rcases releaseCapture_cases p s with e | ⟨r, -, e⟩ <;> rw [e]
  rw [State.removeRecord_link]

namespace LinkKept

variable {s t : State}

/-! ### The requests that can queue notices or clear the counts -/

theorem fire (p : List Byte) (s : State) : LinkKept s (fire p s).1 := by
  rcases fire_cases p s with e | ⟨ns, -, e⟩ <;> rw [e]
  · exact refl s
  · exact linkKept_unitClosed.foldl (fun a n => linkKept_unitClosed.raise (evSoft n) a) ns s

theorem statusRequest (p : List Byte) (s : State) : LinkKept s (statusRequest p s).1 := by
  rcases statusRequest_cases p s with e | e <;> rw [e]
  · exact refl s
  · exact fun h => h.stands rfl rfl rfl rfl rfl

theorem runRequest (p : List Byte) (s : State) : LinkKept s (runRequest p s).1 := by
  rcases runRequest_cases p s with e | ⟨-, -, e⟩ <;> rw [e]
  · exact refl s
  · exact startRun s

theorem stopRequest (p : List Byte) (s : State) : LinkKept s (stopRequest p s).1 := by
  rcases stopRequest_cases p s with e | ⟨-, e⟩ <;> rw [e]
  · exact refl s
  · exact stopEngine s

theorem unitRequest {act : Fin 4 → State → State × Answer} (acts : ∀ k s, LinkKept s (act k s).1) (p : List Byte)
    (s : State) : LinkKept s (unitRequest act p s).1 := by
  rcases unitRequest_cases act p s with e | ⟨k, -, e⟩ <;> rw [e]
  · exact refl s
  · exact acts k s

theorem armRequest (k : Fin 4) (s : State) : LinkKept s (armRequest k s).1 := by
  rcases armRequest_cases k s with e | ⟨-, e⟩
  · rw [e]; exact refl s
  · exact linkKept_unitClosed.tryArm e

theorem triggerRequest (k : Fin 4) (s : State) : LinkKept s (triggerRequest k s).1 := by
  rcases triggerRequest_cases k s with e | ⟨-, e⟩ <;> rw [e]
  · exact refl s
  · exact linkKept_unitClosed.triggerUnitBy k _ _ _ s

theorem abortRequest (k : Fin 4) (s : State) : LinkKept s (abortRequest k s).1 := by
  rcases abortRequest_cases k s with e | ⟨-, e⟩ <;> rw [e]
  · exact refl s
  · exact linkKept_unitClosed.abortUnitBy k s

/-! ### The rows -/

theorem serve {act : List Byte → State → State × Answer} (kind : Byte) (effect : ∀ p s, LinkKept s (act p s).1)
    (s : State) : LinkKept s (serve kind act s) :=
  serve_keeps kind (fun a _ h => h.trans (answer a _)) (fun p => effect p s) (refl s)

theorem serve_link {act : List Byte → State → State × Answer} (kind : Byte) (link : ∀ p s, (act p s).1.link = s.link)
    (s : State) : LinkKept s (Machine.serve kind act s) :=
  serve kind (fun p s => linkKept_of_link (link p s)) s

/-- A request that reports and leaves the state. -/
theorem serve_report {act : List Byte → State → State × Answer} (kind : Byte) (report : ∀ p s, (act p s).1 = s)
    (s : State) : LinkKept s (Machine.serve kind act s) :=
  serve_link kind (fun p s => congrArg State.link (report p s)) s

/-- A row that is carried out under a condition on the state, and otherwise leaves it. -/
theorem of_ite {p : Prop} [Decidable p] (h : p → LinkKept s t) : LinkKept s (if p then t else s) := by
  split
  · exact h (by assumption)
  · exact refl s

/-- R198, R195, R196: a row that turns the dispatcher to a longer work does so for a request that waits. -/
theorem onRequest {is : Byte → Bool} {f : Request → State → State}
    (effect : ∀ q, s.link.requests ≠ [] → LinkKept s (f q s)) : LinkKept s (s.onRequest is f) :=
  onRequest_keeps (P := LinkKept s) (fun q h => effect q (by obtain ⟨rest, e⟩ := requests_of_current h; simp [e]))
    (refl s)

theorem restart (q : Request) (waits : s.link.requests ≠ []) :
    LinkKept s (if q.payload ≠ [] then s.answer (refusal .badLength)
      else if s.link.replies.length < Config.replyPlaces then s.beginRestart q else s) := by
  split
  · exact answer _ s
  · exact of_ite fun room => beginRestart q waits room

theorem saveSetup (q : Request) (waits : s.link.requests ≠ []) :
    LinkKept s (if q.payload ≠ [] then s.answer (refusal .badLength) else s.beginSave) := by
  split
  · exact answer _ s
  · exact fun h => h.busy nofun waits

theorem loadSetup (q : Request) (waits : s.link.requests ≠ []) :
    LinkKept s (if q.payload ≠ [] then s.answer (refusal .badLength)
      else match s.engine with
        | .running => s.answer (refusal .state)
        | .stopped => s.dispatcherTo (.waiting .loading)) := by
  split
  · exact answer _ s
  · split
    · exact answer _ s
    · exact dispatcherTo nofun waits

/-- R180: the dispatcher that holds a reply is busy with a request that waits. -/
theorem placeHeld {r : Reply} (held : s.link.dispatcher = .executing (.holding r)) :
    LinkKept s { s with link := s.link.settle r } := fun h =>
  h.settle r (h.waits (by rw [held]; exact nofun))

/-- Every command keeps the link consistent. -/
theorem of_exec (c : Instr) (e : exec c s = .next t) : LinkKept s t := by
  cases c
  case hardReset cause pins => exact next_keeps (afterReset cause pins s) e
  case startupSetupRead =>
    refine next_keeps (P := LinkKept s) ?_ e
    split
    · exact startupRead _ _ s
    · exact refl s
  case messageReceived bytes => exact next_keeps (receive bytes s) e
  case receiveTimeout periods => exact next_keeps (P := LinkKept s) (fun h => h.silence periods) e
  case stopBitError byte =>
    refine next_keeps (P := LinkKept s) ?_ e
    split
    · exact refl s
    · exact receive [byte] s
  case unknownKind => exact next_keeps (P := LinkKept s) (onRequest fun _ _ => answer _ s) e
  case replyPlaced =>
    refine next_keeps (P := LinkKept s) ?_ e
    split
    · exact placeHeld (by assumption)
    all_goals exact refl s
  case transmitComplete => exact next_keeps (P := LinkKept s) (fun h => h.sent) e
  case identify => exact next_keeps (serve_report _ identifyRequest_state s) e
  case status => exact next_keeps (serve _ statusRequest s) e
  case run => exact next_keeps (serve _ runRequest s) e
  case stop => exact next_keeps (serve _ stopRequest s) e
  case restart => exact next_keeps (P := LinkKept s) (onRequest restart) e
  case restartSetupRead => exact next_keeps (P := LinkKept s) (of_ite fun _ => endRestart s) e
  case saveSetup => exact next_keeps (P := LinkKept s) (onRequest saveSetup) e
  case saveComplete verified =>
    refine next_keeps (P := LinkKept s) ?_ e
    split
    · exact endSave _ verified s
    all_goals exact refl s
  case loadSetup => exact next_keeps (P := LinkKept s) (onRequest loadSetup) e
  case loadComplete =>
    refine next_keeps (P := LinkKept s) ?_ e
    split
    · exact endLoad s
    all_goals exact refl s
  case defaultSetup => exact next_keeps (serve_link _ defaultRequest_link s) e
  case setAutorun => exact next_keeps (serve_link _ autorunRequest_link s) e
  case setPort => exact next_keeps (serve_link _ setPort_link s) e
  case getPort => exact next_keeps (serve_report _ getPort_state s) e
  case setMeasure => exact next_keeps (serve_link _ setMeasure_link s) e
  case getMeasure => exact next_keeps (serve_report _ getMeasure_state s) e
  case setCondition => exact next_keeps (serve_link _ setCondition_link s) e
  case getCondition => exact next_keeps (serve_report _ getCondition_state s) e
  case armCondition => exact next_keeps (serve_link _ (conditionRequest_link condArm) s) e
  case disarmCondition => exact next_keeps (serve_link _ (conditionRequest_link condDisarm) s) e
  case unlatchCondition => exact next_keeps (serve_link _ (conditionRequest_link condUnlatch) s) e
  case setTimer => exact next_keeps (serve_link _ setTimer_link s) e
  case getTimer => exact next_keeps (serve_report _ getTimer_state s) e
  case startTimer => exact next_keeps (serve_link _ (timerRequest_link timerStart) s) e
  case stopTimer => exact next_keeps (serve_link _ (timerRequest_link timerStop) s) e
  case resumeTimer => exact next_keeps (serve_link _ (timerRequest_link timerResume) s) e
  case setBinding => exact next_keeps (serve_link _ setBinding_link s) e
  case getBinding => exact next_keeps (serve_report _ getBinding_state s) e
  case fire => exact next_keeps (serve _ fire s) e
  case setLine => exact next_keeps (serve_link _ setLine_link s) e
  case getLines => exact next_keeps (serve_report _ getLines_state s) e
  case driveLine => exact next_keeps (serve_link _ driveLine_link s) e
  case setUnit => exact next_keeps (serve_link _ setUnit_link s) e
  case getUnit => exact next_keeps (serve_report _ getUnit_state s) e
  case armUnit => exact next_keeps (serve _ (unitRequest armRequest) s) e
  case triggerUnit => exact next_keeps (serve _ (unitRequest triggerRequest) s) e
  case abortUnit => exact next_keeps (serve _ (unitRequest abortRequest) s) e
  case listCaptures => exact next_keeps (serve_report _ listCaptures_state s) e
  case getCapture => exact next_keeps (serve_report _ getCapture_state s) e
  case readFrames => exact next_keeps (serve_report _ readFrames_state s) e
  case holdCapture => exact next_keeps (serve_link _ holdCapture_link s) e
  case releaseCapture => exact next_keeps (serve_link _ releaseCapture_link s) e
  case setStore => exact next_keeps (serve_link _ setStore_link s) e
  case getStore => exact next_keeps (serve_report _ getStore_state s) e
  case firstSyncEdge edges => exact next_keeps (P := LinkKept s) (of_ite fun _ => clockAll edges s) e
  case frameBoundary edges => exact next_keeps (P := LinkKept s) (of_ite fun _ => clockAll edges s) e
  case timerExpire timer edges => exact next_keeps (P := LinkKept s) (of_ite fun _ => clockAll edges s) e
  case syncLost periods => exact next_keeps (linkKept_streamClosed.quiet periods s) e
  case syncRegained edges => exact next_keeps (P := LinkKept s) (of_ite fun _ => clockAll edges s) e
  case take during =>
    change execTake during s = .next t at e
    unfold execTake at e
    split at e <;> cases e
    · exact workFrame _ during s
    · exact refl s
    · exact refl s
  case inputAccepted input periods => exact next_keeps (linkKept_of_link (State.holdPin_link input periods s)) e
  case inputPinChange input level => exact next_keeps (linkKept_of_link (State.samplePin_link input level s)) e

end LinkKept

/-- Settles O6: every row keeps the link consistent, its queues being written by a few operations of the link alone. -/
theorem stepKeepsLinkConsistent : Obligations.StepKeepsLinkConsistent := fun _ t =>
  step_keeps (P := LinkConsistent) (fun _ h => ⟨h.requests, h.replies, h.notices, h.dispatcher, h.sending⟩)
    fun c u h e => (linkConsistent_iff t).2 (LinkKept.of_exec c e ((linkConsistent_iff u).1 h))

end Sys2Proof.Machine

namespace Sys2Proof.Machine

/-! ### The receiver, byte by byte (R171, R174, R175) -/

/-- The link with the receiver in state `st`, a good byte having just been taken. -/
def Link.heard (st : RxState) (l : Link) : Link :=
  { l with receiver := { state := st, awaitHigh := false, gap := 0 } }

theorem Link.heard_heard (l : Link) (st st' : RxState) : (l.heard st).heard st' = l.heard st' := rfl

/-- Good bytes on the line, taken one after the other. -/
def Link.hear (starting : Bool) (bytes : List Byte) (l : Link) : Link :=
  bytes.foldl (fun m b => m.lineByte starting (goodByte b)) l

theorem exec_goodBytes (bytes : List Byte) (s : State) :
    exec (.messageReceived (bytes.map goodByte)) s = .next { s with link := s.link.hear s.starting bytes } := by
  show Host.Outcome.next (s.receive (bytes.map goodByte)) = _
  rw [State.receive, List.foldl_map, Link.hear]

namespace Link

variable (starting : Bool) {l : Link}

theorem hear_append (xs ys : List Byte) (l : Link) :
    l.hear starting (xs ++ ys) = (l.hear starting xs).hear starting ys := List.foldl_append

theorem hear_cons (b : Byte) (bs : List Byte) (l : Link) :
    l.hear starting (b :: bs) = (l.lineByte starting (goodByte b)).hear starting bs := rfl

/-- R174: HUNT takes the start byte. -/
theorem lineByte_start (h : l.receiver.state = .hunt) :
    l.lineByte starting (goodByte Config.startByte) = l.heard .length := by
  rw [lineByte_goodByte]
  simp [takeByte, h, rxTo, heard]

/-- R174: a length in range begins the body. -/
theorem lineByte_length (h : l.receiver.state = .length) {b : Byte} (range : 2 ≤ b.toNat ∧ b.toNat ≤ 250) :
    l.lineByte starting (goodByte b) = l.heard (.body b.toNat []) := by
  rw [lineByte_goodByte]
  simp [takeByte, h, range, rxTo, heard]

/-- R175: a length out of range discards the message and is counted. -/
theorem lineByte_badLength (h : l.receiver.state = .length) {b : Byte} (range : b.toNat < 2 ∨ 250 < b.toNat) :
    l.lineByte starting (goodByte b) = { l.heard .hunt with lengthErrors := satInc l.lengthErrors } := by
  have out : ¬ (2 ≤ b.toNat ∧ b.toNat ≤ 250) := by omega
  rw [lineByte_goodByte]
  simp only [takeByte, h, if_neg out, hunt, heard]

/-- R174: a byte of the body is kept; after the last one the check is awaited. -/
theorem lineByte_body {len : Nat} {got : List Byte} (h : l.receiver.state = .body len got) (b : Byte) :
    l.lineByte starting (goodByte b) =
      l.heard (if got.length + 1 < len then .body len (got ++ [b]) else .check len (got ++ [b]) none) := by
  rw [lineByte_goodByte]
  simp only [takeByte, h]
  split <;> rfl

/-- R174: the first check byte is the low one. -/
theorem lineByte_checkLow {len : Nat} {body : List Byte} (h : l.receiver.state = .check len body none) (low : Byte) :
    l.lineByte starting (goodByte low) = l.heard (.check len body (some low)) := by
  rw [lineByte_goodByte]
  simp only [takeByte, h, rxTo, heard]

/-- R174, R176: the second check byte completes a check that agrees, and the message is offered. -/
theorem lineByte_checked {len : Nat} {low high kind tag : Byte} {payload : List Byte}
    (h : l.receiver.state = .check len (kind :: tag :: payload) (some low))
    (agrees : (check (BitVec.ofNat 8 len :: kind :: tag :: payload)).toNat = leNat [low, high]) :
    l.lineByte starting (goodByte high) =
      (l.heard .hunt).offer starting { kind := kind, tag := tag, payload := payload } := by
  rw [lineByte_goodByte]
  simp only [takeByte, h, endMessage, if_pos agrees, readBody, hunt, heard]

/-- R175: the second check byte completes a check that differs: the message is discarded and counted. -/
theorem lineByte_badCheck {len : Nat} {low high : Byte} {body : List Byte}
    (h : l.receiver.state = .check len body (some low))
    (differs : (check (BitVec.ofNat 8 len :: body)).toNat ≠ leNat [low, high]) :
    l.lineByte starting (goodByte high) = { l.heard .hunt with checkErrors := satInc l.checkErrors } := by
  rw [lineByte_goodByte]
  simp only [takeByte, h, endMessage, if_neg differs, hunt, heard]

/-- R171, R175: a byte with a low stop bit, begun after a high level, discards what is in progress and is counted. -/
theorem lineByte_lowStop {b : LrxByte} (low : b.stop = false) (begun : b.high = true ∨ l.receiver.awaitHigh = false) :
    l.lineByte starting b =
      { l with
        receiver := { state := .hunt, awaitHigh := true, gap := 0 }, framingErrors := satInc l.framingErrors } := by
  have taken : (l.receiver.awaitHigh && !b.high) = false := by
    rcases begun with high | ready
    · simp [high]
    · simp [ready]
  simp [lineByte, taken, low, hunt]

/-- R171: after a low stop bit no byte begins until the line has been high. -/
theorem lineByte_awaiting {b : LrxByte} (awaits : l.receiver.awaitHigh = true) (low : b.high = false) :
    l.lineByte starting b = l := by
  simp [lineByte, awaits, low]

/-! ### A whole message (R172 to R174) -/

/-- The body is kept byte by byte, until it is as long as the length byte said. -/
theorem hear_body {len : Nat} {got bytes : List Byte} (nonempty : bytes ≠ []) (fits : got.length + bytes.length = len)
    (l : Link) : (l.heard (.body len got)).hear starting bytes = l.heard (.check len (got ++ bytes) none) := by
  induction bytes generalizing got with
  | nil => exact absurd rfl nonempty
  | cons b bs ih =>
    rw [hear_cons, lineByte_body starting rfl]
    rw [List.length_cons] at fits
    cases bs with
    | nil =>
      rw [if_neg (by rw [List.length_nil] at fits; omega)]
      rfl
    | cons c cs =>
      rw [if_pos (by rw [List.length_cons] at fits; omega), List.append_cons got b (c :: cs), heard_heard]
      refine ih (List.cons_ne_nil c cs) ?_
      rw [List.length_append, List.length_singleton]
      omega

/-- R172 to R174, R176: a message on the line is offered as the kind, tag and payload it was made from, and the receiver hunts again. -/
theorem hear_wire (h : l.receiver.state = .hunt) (kind tag : Byte) {payload : List Byte} (fits : payload.length ≤ 248) :
    l.hear starting (wire kind tag payload) =
      (l.heard .hunt).offer starting { kind := kind, tag := tag, payload := payload } := by
  generalize hbody : kind :: tag :: payload = body
  have hlength : body.length = payload.length + 2 := by rw [← hbody]; rfl
  have hcount : (BitVec.ofNat 8 body.length).toNat = body.length := by
    rw [BitVec.toNat_ofNat]
    exact Nat.mod_eq_of_lt (by omega)
  obtain ⟨low, high, hcheck⟩ : ∃ low high, leBytes 2 (check (BitVec.ofNat 8 body.length :: body)).toNat = [low, high] :=
    ⟨_, _, rfl⟩
  have agrees : (check (BitVec.ofNat 8 body.length :: body)).toNat = leNat [low, high] := by
    rw [← hcheck, leNat_leBytes]
    exact (Nat.mod_eq_of_lt (BitVec.isLt _)).symm
  have onLine : wire kind tag payload =
      Config.startByte :: BitVec.ofNat 8 body.length :: (body ++ [low, high]) := by
    rw [← hcheck, ← hbody]
    rfl
  have received : (l.heard (.body body.length [])).hear starting body = l.heard (.check body.length body none) :=
    hear_body starting (hbody ▸ List.cons_ne_nil _ _) (Nat.zero_add _) l
  rw [onLine, hear_cons, lineByte_start starting h, hear_cons, lineByte_length starting rfl (by omega), hcount,
    hear_append]
  show Link.hear starting [low, high] ((l.heard (.body body.length [])).hear starting body) = _
  rw [received, hear_cons, lineByte_checkLow starting rfl, hear_cons]
  subst hbody
  exact lineByte_checked starting (l := l.heard _) rfl agrees

/-! ### A message offered (R176) -/

/-- R176, R177: a request that joins the queue starts the dispatcher that is IDLE. -/
theorem enqueue_eq (q : Request) (l : Link) :
    l.enqueue q =
      { l with
        requests := l.requests ++ [q]
        dispatcher := if l.dispatcher = .idle then .executing .begun else l.dispatcher } := by
  unfold enqueue
  cases l.dispatcher <;> rfl

theorem offer_room (q : Request) (room : l.requests.length < 2) : l.offer starting q = l.enqueue q := if_pos room

/-- R176: OVERRUN while the reply queue has a place and start-up is over. -/
theorem offer_refused (q : Request) (full : l.requests.length = 2) (room : l.replies.length < 4) :
    l.offer false q = l.placeReply (overrunReply q) := by
  have noPlace : ¬ l.requests.length < Config.requestPlaces := by rw [full]; decide
  rw [offer, if_neg noPlace]
  exact if_pos (decide_eq_true room)

/-- R176: otherwise the message is dropped and counted. -/
theorem offer_dropped (q : Request) (full : l.requests.length = 2) (no : starting = true ∨ l.replies.length = 4) :
    l.offer starting q = { l with overrunDrops := satInc l.overrunDrops } := by
  have noPlace : ¬ l.requests.length < Config.requestPlaces := by rw [full]; decide
  rw [offer, if_neg noPlace]
  refine if_neg fun may => ?_
  obtain ⟨up, room⟩ := (Bool.and_eq_true _ _).mp may
  rcases no with starts | noReplyPlace
  · rw [starts] at up
    exact absurd up (by decide)
  · rw [noReplyPlace] at room
    exact absurd room (by decide)

@[simp] theorem placeReply_overrunDrops (r : Reply) (l : Link) : (l.placeReply r).overrunDrops = l.overrunDrops := by
  unfold placeReply kick
  split
  · unfold choose
    split <;> rfl
  all_goals rfl

end Link

/-- R199: start-up is over exactly when no start-up waits for its read. -/
theorem starting_false_iff (s : State) : s.starting = false ↔ s.startup = none :=
  Option.isSome_eq_false_iff.trans Option.isNone_iff_eq_none

/-- A message on the line of a part that hunts is offered to the request queue (R174, R176). -/
theorem exec_wire {s : State} (h : s.link.receiver.state = .hunt) (kind tag : Byte) {payload : List Byte}
    (fits : payload.length ≤ 248) :
    exec (.messageReceived ((wire kind tag payload).map goodByte)) s =
      .next { s with
        link := (s.link.heard .hunt).offer s.starting { kind := kind, tag := tag, payload := payload } } := by
  rw [exec_goodBytes, Link.hear_wire s.starting h kind tag fits]

/-- Settles O14: the receiver takes the message byte by byte, and the request joins a queue that has a place. -/
theorem goodMessageJoinsTheRequestQueue : Obligations.GoodMessageJoinsTheRequestQueue := by
  intro s kind tag payload fits hunting room
  rw [exec_wire hunting kind tag fits, Link.offer_room _ _ (l := s.link.heard .hunt) room, Link.enqueue_eq]
  rfl

/-- Settles O16: a full request queue is answered OVERRUN while the reply queue has a place and start-up is over. -/
theorem messageAtAFullQueueIsRefused : Obligations.MessageAtAFullQueueIsRefused := by
  intro s kind tag payload fits hunting full atMost
  refine ⟨_, exec_wire hunting kind tag fits, rfl, ?_⟩
  dsimp only
  by_cases dropped : s.startup ≠ none ∨ s.link.replies.length = 4
  case pos =>
    have no : s.starting = true ∨ (s.link.heard .hunt).replies.length = 4 :=
      dropped.imp_left fun starts => Bool.not_eq_false _ ▸ mt (starting_false_iff s).1 starts
    rw [Link.offer_dropped (l := s.link.heard .hunt) _ _ full no]
    refine ⟨rfl, rfl, fun ⟨up, room⟩ => ?_, fun _ => ⟨rfl, rfl⟩⟩
    exact absurd dropped (not_or.2 ⟨not_not.2 up, Nat.ne_of_lt room⟩)
  case neg =>
    obtain ⟨up, noFull⟩ := not_or.1 dropped
    have room : (s.link.heard .hunt).replies.length < 4 := Nat.lt_of_le_of_ne atMost noFull
    rw [(starting_false_iff s).2 (not_not.1 up), Link.offer_refused (l := s.link.heard .hunt) _ full room]
    exact ⟨Link.placeReply_requests _ _, Link.placeReply_notices _ _,
      fun _ => ⟨Link.placeReply_replies _ _, Link.placeReply_overrunDrops _ _⟩, fun no => absurd no dropped⟩

/-! ### The receiver's failures (R171, R175) -/

theorem exec_goodByte (b : Byte) (s : State) :
    exec (.messageReceived [goodByte b]) s = .next { s with link := s.link.lineByte s.starting (goodByte b) } := rfl

/-- R175: a stop-bit error is the byte whose stop bit is low, taken as any other. -/
theorem exec_stopBitError {b : LrxByte} (low : b.stop = false) (s : State) :
    exec (.stopBitError b) s = exec (.messageReceived [b]) s := by
  show Host.Outcome.next (if b.stop then s else s.receive [b]) = .next (s.receive [b])
  rw [low]
  rfl

theorem Link.silence_hunt {l : Link} (h : l.receiver.state = .hunt) (periods : Nat) : l.silence periods = l := by
  simp only [Link.silence, h]

/-- R175: more than 10 ms without a byte fails the message in progress. -/
theorem Link.silence_late {l : Link} (h : l.receiver.state ≠ .hunt) {periods : Nat}
    (late : 245760 < l.receiver.gap + periods) :
    l.silence periods = { l.hunt with timeouts := satInc l.timeouts } := by
  unfold Link.silence
  split
  · exact absurd (by assumption) h
  all_goals exact if_pos late

/-- Settles O17: each failure is one branch of the receiver, or of its timeout. -/
theorem receiverFailuresAreCounted : Obligations.ReceiverFailuresAreCounted := by
  refine ⟨fun s b h range => ?length, fun s len body low high h differs => ?check, fun s b low => ?framing,
    fun s periods => ⟨fun h => ?quiet, fun h late => ?timeout⟩⟩
  case length => rw [exec_goodByte, Link.lineByte_badLength _ h range]; rfl
  case check => rw [exec_goodByte, Link.lineByte_badCheck _ h differs]; rfl
  case framing =>
    rw [exec_stopBitError low]
    have received : exec (.messageReceived [b]) s = .next { s with link := s.link.lineByte s.starting b } := rfl
    rw [received]
    refine ⟨fun begun => ?_, fun begun => ?_, fun ⟨awaits, high⟩ => ?_⟩
    · rw [Link.lineByte_lowStop _ low begun]
    · rw [Link.lineByte_lowStop _ low begun]
    · rw [Link.lineByte_awaiting _ awaits high]
      exact ⟨rfl, rfl⟩
  case quiet => exact congrArg (fun l => Host.Outcome.next { s with link := l }) (Link.silence_hunt h periods)
  case timeout => exact congrArg (fun l => Host.Outcome.next { s with link := l }) (Link.silence_late h late)

end Sys2Proof.Machine

namespace Sys2Proof.Machine

/-! ### Replies placed or held (R177, R178, R180) -/

theorem Link.settle_full (r : Reply) {l : Link} (full : 4 ≤ l.replies.length) :
    l.settle r = { l with dispatcher := .executing (.holding r) } := if_neg (Nat.not_lt.2 full)

/-- R177, R180: a reply that finds a place is queued, its request removed, and the next one begun. -/
theorem Link.settle_placed (r : Reply) {l : Link} {q : Request} {rest : List Request} (front : l.requests = q :: rest)
    (room : l.replies.length < 4) :
    (l.settle r).replies = l.replies ++ [r] ∧ (l.settle r).requests = rest ∧ (l.settle r).notices = l.notices
      ∧ (l.settle r).receiver = l.receiver
      ∧ (l.settle r).dispatcher = if rest = [] then .idle else .executing .begun := by
  have placed : l.settle r = (l.placeReply r).requestDone := if_pos room
  have tail : (l.placeReply r).requests.tail = rest := by rw [placeReply_requests, front, List.tail_cons]
  rw [placed, Link.requestDone, tail]
  refine ⟨placeReply_replies r l, rfl, placeReply_notices r l, placeReply_receiver r l, ?_⟩
  exact if_congr List.isEmpty_iff rfl rfl

theorem State.answer_front (a : Answer) {s : State} {q : Request} {rest : List Request}
    (front : s.link.requests = q :: rest) : s.answer a = { s with link := s.link.settle (replyTo q a) } := by
  simp only [State.answer, front]

/-- R180: the dispatcher that holds a reply tries to place it. -/
theorem exec_replyPlaced {s : State} {r : Reply} (held : s.link.dispatcher = .executing (.holding r)) :
    exec .replyPlaced s = .next { s with link := s.link.settle r } := by
  show execReplyPlaced s = _
  simp only [execReplyPlaced, held]

/-- Settles O18: an answer and a held reply are settled alike, by the room in the reply queue. -/
theorem repliesArePlacedOrHeld : Obligations.RepliesArePlacedOrHeld := by
  refine ⟨fun s a q rest front => ⟨replyTo q a, rfl, rfl, rfl, rfl, fun room => ?placed, fun full => ?held⟩,
    fun s r q rest held front => ⟨fun room => ?later, fun full => ?still⟩⟩
  case placed =>
    obtain ⟨replies, requests, notices, receiver, dispatcher⟩ := Link.settle_placed (replyTo q a) front room
    rw [State.answer_front a front]
    exact ⟨rfl, replies, requests, notices, receiver, dispatcher⟩
  case held => rw [State.answer_front a front, Link.settle_full _ full]
  case later =>
    obtain ⟨replies, requests, notices, -, dispatcher⟩ := Link.settle_placed r front room
    exact ⟨_, exec_replyPlaced held, rfl, replies, requests, notices, dispatcher⟩
  case still => rw [exec_replyPlaced held, Link.settle_full r full, ← held]

/-! ### The transmitter (R171, R181, R182) -/

/-- R182: the choice writes the transmitter and nothing else. -/
theorem Link.choose_only (l : Link) : l.choose = { l with transmitter := l.choose.transmitter } := by
  unfold Link.choose
  split <;> rfl

theorem Link.choose_reply {l : Link} {r : Reply} {rest : List Reply} (h : l.replies = r :: rest) :
    l.choose.transmitter = .sendingReply r.wire := by
  simp only [Link.choose, h]

theorem Link.choose_notice {l : Link} {n : Notice} {rest : List Notice} (noReply : l.replies = [])
    (h : l.notices = n :: rest) : l.choose.transmitter = .sendingNotice n.wire := by
  simp only [Link.choose, noReply, h]

theorem Link.choose_idle {l : Link} (noReply : l.replies = []) (noNotice : l.notices = []) :
    l.choose.transmitter = .idle := by
  simp only [Link.choose, noReply, noNotice]

theorem Link.sent_reply {l : Link} {bytes : List Byte} (h : l.transmitter = .sendingReply bytes) :
    l.sent = Link.choose { l with replies := l.replies.tail } := by
  simp only [Link.sent, h]

theorem Link.sent_notice {l : Link} {bytes : List Byte} (h : l.transmitter = .sendingNotice bytes) :
    l.sent = Link.choose { l with notices := l.notices.tail } := by
  simp only [Link.sent, h]

/-- R171: past the last bit of the message LTX rests high. -/
theorem ltx_rest {s : State} {bitTimes : Nat} (past : s.link.transmitter.levels.length ≤ bitTimes) :
    s.ltx bitTimes = true := List.getD_eq_default _ true past

theorem ltx_idle {s : State} (idle : s.link.transmitter = .idle) (bitTimes : Nat) : s.ltx bitTimes = true :=
  ltx_rest (by rw [idle]; exact Nat.zero_le _)

/-- R171: while the message is sent LTX has the levels of its bits. -/
theorem ltx_level {s : State} {bitTimes : Nat} (within : bitTimes < s.link.transmitter.levels.length) :
    s.link.transmitter.levels[bitTimes]? = some (s.ltx bitTimes) := by
  rw [State.ltx, List.getD_eq_getElem _ true within, List.getElem?_eq_getElem within]

/-- R171: a byte on the line, bit by bit. -/
theorem byteFrame_eq (b : Byte) :
    byteFrame b = [false, b.getLsbD 0, b.getLsbD 1, b.getLsbD 2, b.getLsbD 3, b.getLsbD 4, b.getLsbD 5, b.getLsbD 6,
      b.getLsbD 7, true] := by
  simp [byteFrame, byteBits, Vector.toList_ofFn, List.ofFn_succ]

/-- R172, R173: a message ends in the two bytes of its check. -/
theorem wire_check (kind tag : Byte) (payload : List Byte) :
    ∃ low high : Byte,
      wire kind tag payload = 0xC3 :: BitVec.ofNat 8 (payload.length + 2) :: kind :: tag :: payload ++ [low, high]
        ∧ low.toNat + 256 * high.toNat
          = (check (BitVec.ofNat 8 (payload.length + 2) :: kind :: tag :: payload)).toNat := by
  refine ⟨_, _, rfl, ?_⟩
  exact (leNat_leBytes 2 _).trans (Nat.mod_eq_of_lt (BitVec.isLt _))

/-- R181, R182: the queue behind the message that has gone out, and what is sent next from the queues that remain. -/
theorem exec_transmitComplete {s : State} {replies : List Reply} {notices : List Notice}
    (h : (∃ b, s.link.transmitter = .sendingReply b) ∧ replies = s.link.replies.tail ∧ notices = s.link.notices
      ∨ (∃ b, s.link.transmitter = .sendingNotice b) ∧ replies = s.link.replies ∧ notices = s.link.notices.tail) :
    exec .transmitComplete s =
      .next { s with link := Link.choose { s.link with replies := replies, notices := notices } } := by
  show Host.Outcome.next { s with link := s.link.sent } = _
  rcases h with ⟨⟨b, sending⟩, rfl, rfl⟩ | ⟨⟨b, sending⟩, rfl, rfl⟩
  · rw [Link.sent_reply sending]
  · rw [Link.sent_notice sending]

/-- Settles O19: the transmitter by the queue it sent from, the levels of LTX by its message, and each notice by its fields. -/
theorem transmitterRemovesAndChooses : Obligations.TransmitterRemovesAndChooses := by
  refine ⟨fun s replies notices h => ?sent, byteFrame_eq, fun _ _ => ltx_rest, fun _ _ => ltx_level, wire_check, ?event,
    ?fault, ?closed, ?dropped, ?armFailed, ?ready⟩
  case sent =>
    refine ⟨_, exec_transmitComplete h, rfl, Link.choose_only _, fun r rest hr => Link.choose_reply hr,
      fun n rest noReply hn => Link.choose_notice noReply hn, fun noReply noNotice => Link.choose_idle noReply noNotice,
      fun r rest hr => congrArg Transmitter.levels (Link.choose_reply hr),
      fun n rest noReply hn => congrArg Transmitter.levels (Link.choose_notice noReply hn),
      fun noReply noNotice => ltx_idle (Link.choose_idle noReply noNotice)⟩
  case event => exact fun _ _ _ _ _ => rfl
  case fault =>
    intro fault shortA shortB run frame
    cases fault <;> cases shortA <;> cases shortB <;> rfl
  case closed => exact fun _ _ _ _ _ _ _ => rfl
  case dropped =>
    intro reason id k run
    cases reason <;> rfl
  case armFailed =>
    intro k cause run frame needed free
    cases cause <;> rfl
  case ready =>
    intro cause source generation outcome run
    rcases outcome with - | - | (- | m | k) <;> cases cause <;> cases source <;> rfl

/-! ### IDENTIFY, STATUS and an unknown kind (R178, R184, R185) -/

theorem statusRequest_clear (clear : Bool) (s : State) :
    statusRequest [yesNo clear] s =
      (if clear then { s with link := s.link.clearCounts } else s, okay (statusReport s)) := by
  simp only [statusRequest, readYesNo_yesNo]
  cases clear <;> rfl

theorem isRequestKind_false {k : Byte} (low : ¬ (1 ≤ k.toNat ∧ k.toNat ≤ 9)) (high : ¬ (0x10 ≤ k.toNat ∧ k.toNat ≤ 0x2F)) :
    isRequestKind k = false := by
  simp only [isRequestKind, ← Bool.decide_and, decide_eq_false low, decide_eq_false high, Bool.or_false]

/-- Settles O20: the two reports are the bytes they list, and a kind outside the table is refused. -/
theorem identifyStatusAndUnknownKind : Obligations.IdentifyStatusAndUnknownKind := by
  refine ⟨fun s => ⟨fun h => ?identify, fun clear h => ?status⟩, fun s q h low high => ?unknown⟩
  case identify => exact serve_answers h rfl
  case status =>
    refine (serve_answers h (statusRequest_clear clear s)).trans ?_
    rw [statusReport, toList_four, toList_four]
    rfl
  case unknown =>
    refine congrArg Host.Outcome.next (onRequest_current _ _ s q h ?_)
    rw [isRequestKind_false low high]
    rfl

end Sys2Proof.Machine

namespace Sys2Proof.Machine

/-! ### A refused request leaves the state (R179) -/

/-- What a request leaves and answers: unless it is carried out, the state it found. -/
def LeavesUnlessOk (s : State) (o : State × Answer) : Prop := o.2.status ≠ .ok → o.1 = s

/-- A request that its rule refuses leaves the state it found. -/
def RefusalLeaves (act : List Byte → State → State × Answer) : Prop := ∀ p s, LeavesUnlessOk s (act p s)

@[simp] theorem leavesUnlessOk_left (a : Answer) (s : State) : LeavesUnlessOk s (s, a) := fun _ => rfl

@[simp] theorem leavesUnlessOk_okay (data : List Byte) (s t : State) : LeavesUnlessOk s (t, okay data) :=
  fun refused => absurd rfl refused

theorem refusalLeaves_of_report {act : List Byte → State → State × Answer} (report : ∀ p s, (act p s).1 = s) :
    RefusalLeaves act := fun p s _ => report p s

/-! In each branch of a request's checks the state is left, whatever is answered, or the answer is OK. -/

theorem statusRequest_leaves : RefusalLeaves statusRequest := by
  intro p s
  unfold statusRequest
  repeat' split
  all_goals simp

theorem runRequest_leaves : RefusalLeaves runRequest := by
  intro p s
  unfold runRequest
  repeat' split
  all_goals simp

theorem stopRequest_leaves : RefusalLeaves stopRequest := by
  intro p s
  unfold stopRequest
  repeat' split
  all_goals simp

theorem defaultRequest_leaves : RefusalLeaves defaultRequest := by
  intro p s
  unfold defaultRequest
  repeat' split
  all_goals simp

theorem autorunRequest_leaves : RefusalLeaves autorunRequest := by
  intro p s
  unfold autorunRequest
  repeat' split
  all_goals simp

theorem writePorts_leaves (u : Option Setup) (s : State) : LeavesUnlessOk s (writePorts u s) := by
  unfold writePorts
  repeat' split
  all_goals simp

theorem setPort_leaves : RefusalLeaves setPort := by
  intro p s
  unfold setPort
  repeat' split
  all_goals simp [writePorts_leaves]

theorem setMeasure_leaves : RefusalLeaves setMeasure := by
  intro p s
  unfold setMeasure
  repeat' split
  all_goals simp

theorem setCondition_leaves : RefusalLeaves setCondition := by
  intro p s
  unfold setCondition
  repeat' split
  all_goals simp

theorem conditionRequest_leaves (op : ConditionSetup → ConditionState → ConditionState) :
    RefusalLeaves (conditionRequest op) := by
  intro p s
  unfold conditionRequest
  repeat' split
  all_goals simp

theorem setTimer_leaves : RefusalLeaves setTimer := by
  intro p s
  unfold setTimer
  repeat' split
  all_goals simp

theorem timerRequest_leaves (op : TimerSetup → TimerState → TimerState) : RefusalLeaves (timerRequest op) := by
  intro p s
  unfold timerRequest
  repeat' split
  all_goals simp

theorem setBinding_leaves : RefusalLeaves setBinding := by
  intro p s
  unfold setBinding
  repeat' split
  all_goals simp

theorem fire_leaves : RefusalLeaves fire := by
  intro p s
  unfold fire
  repeat' split
  all_goals simp

theorem setLine_leaves : RefusalLeaves setLine := by
  intro p s
  unfold setLine setOutput setInput
  repeat' split
  all_goals simp

theorem driveLine_leaves : RefusalLeaves driveLine := by
  intro p s
  unfold driveLine
  repeat' split
  all_goals simp

theorem setUnit_leaves : RefusalLeaves setUnit := by
  intro p s
  unfold setUnit
  repeat' split
  all_goals simp

/-- R144: what the three unit requests have in common leaves the state where the unit's own rule does. -/
theorem unitRequest_leaves {act : Fin 4 → State → State × Answer} (acts : ∀ k s, LeavesUnlessOk s (act k s)) :
    RefusalLeaves (unitRequest act) := by
  intro p s
  unfold unitRequest
  repeat' split
  all_goals simp [acts]

theorem armRequest_leaves (k : Fin 4) (s : State) : LeavesUnlessOk s (armRequest k s) := by
  unfold armRequest unitReport
  repeat' split
  all_goals simp

theorem triggerRequest_leaves (k : Fin 4) (s : State) : LeavesUnlessOk s (triggerRequest k s) := by
  unfold triggerRequest unitReport
  split <;> simp

theorem abortRequest_leaves (k : Fin 4) (s : State) : LeavesUnlessOk s (abortRequest k s) := by
  unfold abortRequest unitReport
  split <;> simp

theorem holdCapture_leaves : RefusalLeaves holdCapture := by
  intro p s
  unfold holdCapture
  repeat' split
  all_goals simp

theorem releaseCapture_leaves : RefusalLeaves releaseCapture := by
  intro p s
  unfold releaseCapture
  repeat' split
  all_goals simp

theorem setStore_leaves : RefusalLeaves setStore := by
  intro p s
  unfold setStore
  repeat' split
  all_goals simp

/-! ### The checks that come first -/

theorem readIndex_out {n : Nat} {i : Byte} (h : n ≤ i.toNat) : readIndex n i = none := (readIndex_none n i).2 h

theorem readIndex_in {n : Nat} {i : Byte} (h : i.toNat < n) : readIndex n i = some ⟨i.toNat, h⟩ := dif_pos h

/-- A request whose payload has another length than `length` is refused BAD_LENGTH. -/
def ChecksLength (act : List Byte → State → State × Answer) (length : Nat) : Prop :=
  ∀ p s, p.length ≠ length → act p s = (s, refusal .badLength)

/-- A request of one index byte: a payload of another length is BAD_LENGTH, an index out of range BAD_INDEX. -/
structure ChecksIndex (act : List Byte → State → State × Answer) (entries : Nat) : Prop where
  length : ChecksLength act 1
  index  : ∀ i s, entries ≤ i.toNat → act [i] s = (s, refusal .badIndex)

/-- A request of one index byte is refused STATE while the engine is STOPPED. -/
def ChecksRunning (act : List Byte → State → State × Answer) (entries : Nat) : Prop :=
  ∀ i s, i.toNat < entries → s.engine = .stopped → act [i] s = (s, refusal .state)

/-- A request of an index and fields: an empty payload is BAD_LENGTH, an index out of range BAD_INDEX, fields of another length than the entry has BAD_LENGTH. -/
structure ChecksFields (act : List Byte → State → State × Answer) (entries : Nat) (fieldBytes : Byte → Nat) : Prop where
  empty  : ∀ s, act [] s = (s, refusal .badLength)
  index  : ∀ i fields s, entries ≤ i.toNat → act (i :: fields) s = (s, refusal .badIndex)
  length : ∀ i fields s, i.toNat < entries → fields.length ≠ fieldBytes i →
    act (i :: fields) s = (s, refusal .badLength)

/-! The requests of an index and fields (R41, R62, R77, R100, R142, R21, R114). -/

theorem setMeasure_checks : ChecksFields setMeasure 16 fun _ => 6 where
  empty _ := rfl
  index i fields s out := by simp only [setMeasure, readIndex_out out]
  length i fields s within other := by simp only [setMeasure, readIndex_in within, if_pos other]

theorem setCondition_checks : ChecksFields setCondition 32 fun _ => 14 where
  empty _ := rfl
  index i fields s out := by simp only [setCondition, readIndex_out out]
  length i fields s within other := by simp only [setCondition, readIndex_in within, if_pos other]

theorem setTimer_checks : ChecksFields setTimer 4 fun _ => 6 where
  empty _ := rfl
  index i fields s out := by simp only [setTimer, readIndex_out out]
  length i fields s within other := by simp only [setTimer, readIndex_in within, if_pos other]

theorem setBinding_checks : ChecksFields setBinding 48 fun _ => 6 where
  empty _ := rfl
  index i fields s out := by simp only [setBinding, readIndex_out out]
  length i fields s within other := by simp only [setBinding, readIndex_in within, if_pos other]

theorem setUnit_checks : ChecksFields setUnit 4 fun _ => 10 where
  empty _ := rfl
  index i fields s out := by simp only [setUnit, readIndex_out out]
  length i fields s within other := by simp only [setUnit, readIndex_in within, if_pos other]

/-- R21: a port has seven bytes of fields, the interface five. -/
theorem setPort_checks : ChecksFields setPort 3 fun i => if i.toNat = 2 then 5 else 7 where
  empty _ := rfl
  index i fields s out := by simp only [setPort, readIndex_out out]
  length i fields s within other := by
    have target : i = 0 ∨ i = 1 ∨ i = 2 := by bv_omega
    rcases target with rfl | rfl | rfl
    all_goals exact if_pos other

/-- R114: an output has three bytes of fields, an input one. -/
theorem setLine_checks : ChecksFields setLine 6 fun i => if i.toNat < 4 then 3 else 1 where
  empty _ := rfl
  index i fields s out := by
    have notInput : readIndex 2 (i - 4) = none := readIndex_out (by bv_omega)
    simp only [setLine, readIndex_out (Nat.le_trans (by decide : 4 ≤ 6) out), notInput]
  length i fields s within other := by
    by_cases output : i.toNat < 4
    · rw [if_pos output] at other
      simp only [setLine, readIndex_in output, setOutput, if_pos other]
    · rw [if_neg output] at other
      have input : (i - 4).toNat < 2 := by bv_omega
      simp only [setLine, readIndex_out (Nat.not_lt.1 output), readIndex_in input, setInput]
      split
      · exact absurd rfl other
      · rfl

/-! The requests of fixed length. -/

section
variable {act : List Byte → State → State × Answer}

theorem checksLength_zero (long : ∀ b p s, act (b :: p) s = (s, refusal .badLength)) : ChecksLength act 0
  | [], _, other => absurd rfl other
  | b :: p, s, _ => long b p s

theorem checksLength_one (empty : ∀ s, act [] s = (s, refusal .badLength))
    (long : ∀ b c p s, act (b :: c :: p) s = (s, refusal .badLength)) : ChecksLength act 1
  | [], s, _ => empty s
  | [_], _, other => absurd rfl other
  | b :: c :: p, s, _ => long b c p s

end

theorem identifyRequest_length : ChecksLength identifyRequest 0 := checksLength_zero fun _ _ _ => rfl
theorem statusRequest_length : ChecksLength statusRequest 1 := checksLength_one (fun _ => rfl) fun _ _ _ _ => rfl
theorem runRequest_length : ChecksLength runRequest 0 := checksLength_zero fun _ _ _ => rfl
theorem stopRequest_length : ChecksLength stopRequest 0 := checksLength_zero fun _ _ _ => rfl
theorem defaultRequest_length : ChecksLength defaultRequest 0 := checksLength_zero fun _ _ _ => rfl
theorem autorunRequest_length : ChecksLength autorunRequest 1 := checksLength_one (fun _ => rfl) fun _ _ _ _ => rfl
theorem fire_length : ChecksLength fire 1 := checksLength_one (fun _ => rfl) fun _ _ _ _ => rfl
theorem getLines_length : ChecksLength getLines 0 := checksLength_zero fun _ _ _ => rfl
theorem listCaptures_length : ChecksLength listCaptures 0 := checksLength_zero fun _ _ _ => rfl
theorem getStore_length : ChecksLength getStore 0 := checksLength_zero fun _ _ _ => rfl

theorem getCapture_length : ChecksLength getCapture 2 := by
  intro p s other
  unfold getCapture
  split
  · exact absurd rfl other
  · rfl

theorem readFrames_length : ChecksLength readFrames 6 := by
  intro p s other
  unfold readFrames
  split
  · exact absurd rfl other
  · rfl

theorem holdCapture_length : ChecksLength holdCapture 3 := by
  intro p s other
  unfold holdCapture
  split
  · exact absurd rfl other
  · rfl

theorem releaseCapture_length : ChecksLength releaseCapture 2 := by
  intro p s other
  unfold releaseCapture
  split
  · exact absurd rfl other
  · rfl

theorem driveLine_length : ChecksLength driveLine 2 := by
  intro p s other
  unfold driveLine
  split
  · exact absurd rfl other
  · rfl

theorem setStore_length : ChecksLength setStore 2 := fun _ _ other => if_pos other

/-! The requests of an index alone (R22, R42, R60, R63, R75, R78, R101, R143, R144). -/

theorem getPort_checks : ChecksIndex getPort 3 where
  length := checksLength_one (fun _ => rfl) fun _ _ _ _ => rfl
  index i s out := by simp only [getPort, readIndex_out out]

theorem getMeasure_checks : ChecksIndex getMeasure 16 where
  length := checksLength_one (fun _ => rfl) fun _ _ _ _ => rfl
  index i s out := by simp only [getMeasure, readIndex_out out]

theorem getCondition_checks : ChecksIndex getCondition 32 where
  length := checksLength_one (fun _ => rfl) fun _ _ _ _ => rfl
  index i s out := by simp only [getCondition, readIndex_out out]

theorem getTimer_checks : ChecksIndex getTimer 4 where
  length := checksLength_one (fun _ => rfl) fun _ _ _ _ => rfl
  index i s out := by simp only [getTimer, readIndex_out out]

theorem getBinding_checks : ChecksIndex getBinding 48 where
  length := checksLength_one (fun _ => rfl) fun _ _ _ _ => rfl
  index i s out := by simp only [getBinding, readIndex_out out]

theorem getUnit_checks : ChecksIndex getUnit 4 where
  length := checksLength_one (fun _ => rfl) fun _ _ _ _ => rfl
  index i s out := by simp only [getUnit, readIndex_out out]

theorem conditionRequest_checks (op : ConditionSetup → ConditionState → ConditionState) :
    ChecksIndex (conditionRequest op) 32 where
  length := checksLength_one (fun _ => rfl) fun _ _ _ _ => rfl
  index i s out := by simp only [conditionRequest, readIndex_out out]

theorem timerRequest_checks (op : TimerSetup → TimerState → TimerState) : ChecksIndex (timerRequest op) 4 where
  length := checksLength_one (fun _ => rfl) fun _ _ _ _ => rfl
  index i s out := by simp only [timerRequest, readIndex_out out]

theorem unitRequest_checks (act : Fin 4 → State → State × Answer) : ChecksIndex (unitRequest act) 4 where
  length := checksLength_one (fun _ => rfl) fun _ _ _ _ => rfl
  index i s out := by simp only [unitRequest, readIndex_out out]

theorem conditionRequest_stopped (op : ConditionSetup → ConditionState → ConditionState) :
    ChecksRunning (conditionRequest op) 32 := fun i s within stopped => by
  simp only [conditionRequest, readIndex_in within, stopped]

theorem timerRequest_stopped (op : TimerSetup → TimerState → TimerState) : ChecksRunning (timerRequest op) 4 :=
  fun i s within stopped => by simp only [timerRequest, readIndex_in within, stopped]

theorem unitRequest_stopped (act : Fin 4 → State → State × Answer) : ChecksRunning (unitRequest act) 4 :=
  fun i s within stopped => by simp only [unitRequest, readIndex_in within, stopped]

/-! DRIVE_LINE (R110). -/

theorem driveLine_badIndex {o op : Byte} (out : 4 ≤ o.toNat) (s : State) :
    driveLine [o, op] s = (s, refusal .badIndex) := by
  simp only [driveLine, readIndex_out out]

theorem driveLine_badValue {o op : Byte} (within : o.toNat < 4) (unknown : 3 ≤ op.toNat) (s : State) :
    driveLine [o, op] s = (s, refusal .badValue) := by
  have noCode : readCode LineOp.codes op = none := List.getElem?_eq_none unknown
  simp only [driveLine, readIndex_in within, noCode]

/-! ### The rows of the first checks -/

/-- What the row of command `c` does when the dispatcher may carry out a request of kind `kind`: `act`. -/
def RowServes (kind : Byte) (c : Instr) (act : List Byte → State → State × Answer) : Prop :=
  ∀ s, exec c s = .next (serve kind act s)

section
variable {kind : Byte} {c : Instr} {act : List Byte → State → State × Answer} {entries : Nat} {s : State}
  {payload : List Byte}

theorem RowServes.refuses {st : Status} (row : RowServes kind c act) (h : Serves s kind payload)
    (refused : act payload s = (s, refusal st)) : exec c s = .next (s.answer (refusal st)) :=
  (row s).trans (serve_answers h refused)

/-- The first checks of a request of an index and fields, as its row answers them. -/
theorem ChecksFields.row {fieldBytes : Byte → Nat} (checks : ChecksFields act entries fieldBytes)
    (row : RowServes kind c act) (h : Serves s kind payload) :
    (payload = [] → exec c s = .next (s.answer (refusal .badLength)))
      ∧ (∀ i fields, payload = i :: fields → entries ≤ i.toNat → exec c s = .next (s.answer (refusal .badIndex)))
      ∧ (∀ i fields, payload = i :: fields → i.toNat < entries → fields.length ≠ fieldBytes i →
          exec c s = .next (s.answer (refusal .badLength))) := by
  refine ⟨?_, ?_, ?_⟩
  · rintro rfl
    exact row.refuses h (checks.empty s)
  · rintro i fields rfl out
    exact row.refuses h (checks.index i fields s out)
  · rintro i fields rfl within other
    exact row.refuses h (checks.length i fields s within other)

end

/-- The row of an indexed request, `(kind, command, entries, length)`, makes its first checks in order. -/
def RefusesFields (row : Byte × Instr × Nat × Nat) : Prop :=
  ∀ s payload, Serves s row.1 payload →
    (payload = [] → exec row.2.1 s = .next (s.answer (refusal .badLength)))
    ∧ (∀ i fields, payload = i :: fields → row.2.2.1 ≤ i.toNat → exec row.2.1 s = .next (s.answer (refusal .badIndex)))
    ∧ (∀ i fields, payload = i :: fields → i.toNat < row.2.2.1 → payload.length ≠ row.2.2.2 →
        exec row.2.1 s = .next (s.answer (refusal .badLength)))

theorem ChecksFields.refuses {kind : Byte} {c : Instr} {act : List Byte → State → State × Answer} {entries n : Nat}
    (checks : ChecksFields act entries fun _ => n) (row : RowServes kind c act) :
    RefusesFields (kind, c, entries, n + 1) := by
  intro s payload h
  obtain ⟨empty, index, length⟩ := checks.row row h
  refine ⟨empty, index, fun i fields e within other => length i fields e within fun same => other ?_⟩
  rw [e, List.length_cons, same]

/-- The row of a request of one index byte, `(kind, command, entries)`, makes its first checks in order. -/
def RefusesIndex (row : Byte × Instr × Nat) : Prop :=
  ∀ s payload, Serves s row.1 payload →
    (payload.length ≠ 1 → exec row.2.1 s = .next (s.answer (refusal .badLength)))
    ∧ (∀ i, payload = [i] → row.2.2 ≤ i.toNat → exec row.2.1 s = .next (s.answer (refusal .badIndex)))

theorem ChecksIndex.refuses {kind : Byte} {c : Instr} {act : List Byte → State → State × Answer} {entries : Nat}
    (checks : ChecksIndex act entries) (row : RowServes kind c act) : RefusesIndex (kind, c, entries) := by
  refine fun s payload h => ⟨fun other => row.refuses h (checks.length payload s other), ?_⟩
  rintro i rfl out
  exact row.refuses h (checks.index i s out)

/-- The row of a request of fixed length, `(kind, command, length)`, refuses another length. -/
def RefusesLength (row : Byte × Instr × Nat) : Prop :=
  ∀ s payload, Serves s row.1 payload → payload.length ≠ row.2.2 →
    exec row.2.1 s = .next (s.answer (refusal .badLength))

theorem ChecksLength.refuses {kind : Byte} {c : Instr} {act : List Byte → State → State × Answer} {n : Nat}
    (checks : ChecksLength act n) (row : RowServes kind c act) : RefusesLength (kind, c, n) :=
  fun s payload h other => row.refuses h (checks payload s other)

/-- The row of a request of one index byte, `(kind, command, entries)`, is refused STATE while STOPPED. -/
def RefusesStopped (row : Byte × Instr × Nat) : Prop :=
  ∀ s i, Serves s row.1 [i] → i.toNat < row.2.2 → s.engine = .stopped →
    exec row.2.1 s = .next (s.answer (refusal .state))

theorem ChecksRunning.refuses {kind : Byte} {c : Instr} {act : List Byte → State → State × Answer} {entries : Nat}
    (checks : ChecksRunning act entries) (row : RowServes kind c act) : RefusesStopped (kind, c, entries) :=
  fun s i h within stopped => row.refuses h (checks i s within stopped)

/-! RESTART, SAVE_SETUP and LOAD_SETUP, which do not answer through `serve` (R195, R196, R198). -/

theorem onRequest_serves {kind : Byte} {payload : List Byte} {s : State} (f : Request → State → State)
    (h : Serves s kind payload) :
    ∃ tag, s.onRequest (fun k => decide (k = kind)) f = f { kind := kind, tag := tag, payload := payload } s := by
  obtain ⟨tag, current⟩ := h
  exact ⟨tag, onRequest_current _ f s _ current (decide_eq_true rfl)⟩

/-- A row that refuses every payload but the empty one before anything else. -/
theorem refusesLength_onRequest {kind : Byte} {c : Instr} {f : Request → State → State}
    (row : ∀ s, exec c s = .next (s.onRequest (fun k => decide (k = kind)) fun q t =>
      if q.payload ≠ [] then t.answer (refusal .badLength) else f q t)) : RefusesLength (kind, c, 0) := by
  intro s payload h other
  obtain ⟨tag, carriedOut⟩ := onRequest_serves _ h
  rw [row, carriedOut]
  exact congrArg _ (if_pos fun empty : payload = [] => other (congrArg List.length empty))

/-- R196: LOAD_SETUP is refused STATE while RUNNING. -/
theorem loadSetup_running {s : State} (running : s.engine = .running) (h : Serves s 0x07 []) :
    exec .loadSetup s = .next (s.answer (refusal .state)) := by
  obtain ⟨tag, carriedOut⟩ := onRequest_serves _ h
  refine congrArg Host.Outcome.next (carriedOut.trans ?_)
  simp only [ne_eq, not_true_eq_false, if_false, running]

/-- R197: DEFAULT_SETUP is refused STATE while RUNNING. -/
theorem defaultRequest_running {s : State} (running : s.engine = .running) :
    defaultRequest [] s = (s, refusal .state) := by
  simp only [defaultRequest, running]

theorem of_listed {α : Type} {P : α → Prop} {rows : List α} {row : α} (listed : row ∈ rows) (all : ∀ r ∈ rows, P r) :
    P row := all row listed

/-- Settles O60: each request leaves the state unless it is carried out, and each row of a list makes the checks that its list names. -/
theorem refusalsComeInOrderAndChangeNothing : Obligations.RefusalsComeInOrderAndChangeNothing := by
  refine ⟨fun s payload act listed => of_listed (P := RefusalLeaves) listed ?leaves payload s,
    fun s kind c entries length payload listed => of_listed (P := RefusesFields) listed ?fields s payload,
    fun s kind c entries payload listed => of_listed (P := RefusesIndex) listed ?index s payload,
    fun s payload h => setPort_checks.row (fun _ => rfl) h, fun s payload h => setLine_checks.row (fun _ => rfl) h,
    fun s payload h => ?driveLine,
    fun s kind c length payload listed => of_listed (P := RefusesLength) listed ?length s payload,
    fun s kind c entries i listed => of_listed (P := RefusesStopped) listed ?stopped s i,
    fun s running => ⟨loadSetup_running running, fun h => serve_answers h (defaultRequest_running running)⟩⟩
  case leaves =>
    simp only [List.forall_mem_cons]
    exact ⟨refusalLeaves_of_report identifyRequest_state, statusRequest_leaves, runRequest_leaves, stopRequest_leaves,
      defaultRequest_leaves, autorunRequest_leaves, setPort_leaves, refusalLeaves_of_report getPort_state,
      setMeasure_leaves, refusalLeaves_of_report getMeasure_state, setCondition_leaves,
      refusalLeaves_of_report getCondition_state, conditionRequest_leaves condArm, conditionRequest_leaves condDisarm,
      conditionRequest_leaves condUnlatch, setTimer_leaves, refusalLeaves_of_report getTimer_state,
      timerRequest_leaves timerStart, timerRequest_leaves timerStop, timerRequest_leaves timerResume,
      setBinding_leaves, refusalLeaves_of_report getBinding_state, fire_leaves, setLine_leaves,
      refusalLeaves_of_report getLines_state, driveLine_leaves, setUnit_leaves, refusalLeaves_of_report getUnit_state,
      unitRequest_leaves armRequest_leaves, unitRequest_leaves triggerRequest_leaves,
      unitRequest_leaves abortRequest_leaves, refusalLeaves_of_report listCaptures_state,
      refusalLeaves_of_report getCapture_state, refusalLeaves_of_report readFrames_state, holdCapture_leaves,
      releaseCapture_leaves, setStore_leaves, refusalLeaves_of_report getStore_state, nofun⟩
  case fields =>
    simp only [List.forall_mem_cons]
    exact ⟨setMeasure_checks.refuses fun _ => rfl, setCondition_checks.refuses fun _ => rfl,
      setTimer_checks.refuses fun _ => rfl, setBinding_checks.refuses fun _ => rfl,
      setUnit_checks.refuses fun _ => rfl, nofun⟩
  case index =>
    simp only [List.forall_mem_cons]
    exact ⟨getPort_checks.refuses fun _ => rfl, getMeasure_checks.refuses fun _ => rfl,
      getCondition_checks.refuses fun _ => rfl, (conditionRequest_checks condArm).refuses fun _ => rfl,
      (conditionRequest_checks condDisarm).refuses fun _ => rfl,
      (conditionRequest_checks condUnlatch).refuses fun _ => rfl, getTimer_checks.refuses fun _ => rfl,
      (timerRequest_checks timerStart).refuses fun _ => rfl, (timerRequest_checks timerStop).refuses fun _ => rfl,
      (timerRequest_checks timerResume).refuses fun _ => rfl, getBinding_checks.refuses fun _ => rfl,
      getUnit_checks.refuses fun _ => rfl, (unitRequest_checks armRequest).refuses fun _ => rfl,
      (unitRequest_checks triggerRequest).refuses fun _ => rfl,
      (unitRequest_checks abortRequest).refuses fun _ => rfl, nofun⟩
  case driveLine =>
    have row : RowServes 0x23 .driveLine driveLine := fun _ => rfl
    refine ⟨fun other => row.refuses h (driveLine_length payload s other), ?_, ?_⟩
    · rintro o op rfl out
      exact row.refuses h (driveLine_badIndex out s)
    · rintro o op rfl within unknown
      exact row.refuses h (driveLine_badValue within unknown s)
  case length =>
    simp only [List.forall_mem_cons]
    exact ⟨identifyRequest_length.refuses fun _ => rfl, statusRequest_length.refuses fun _ => rfl,
      runRequest_length.refuses fun _ => rfl, stopRequest_length.refuses fun _ => rfl,
      refusesLength_onRequest fun _ => rfl, refusesLength_onRequest fun _ => rfl,
      refusesLength_onRequest fun _ => rfl, defaultRequest_length.refuses fun _ => rfl,
      autorunRequest_length.refuses fun _ => rfl, fire_length.refuses fun _ => rfl,
      getLines_length.refuses fun _ => rfl, listCaptures_length.refuses fun _ => rfl,
      getCapture_length.refuses fun _ => rfl, readFrames_length.refuses fun _ => rfl,
      holdCapture_length.refuses fun _ => rfl, releaseCapture_length.refuses fun _ => rfl,
      setStore_length.refuses fun _ => rfl, getStore_length.refuses fun _ => rfl, nofun⟩
  case stopped =>
    simp only [List.forall_mem_cons]
    exact ⟨(conditionRequest_stopped condArm).refuses fun _ => rfl,
      (conditionRequest_stopped condDisarm).refuses fun _ => rfl,
      (conditionRequest_stopped condUnlatch).refuses fun _ => rfl,
      (timerRequest_stopped timerStart).refuses fun _ => rfl, (timerRequest_stopped timerStop).refuses fun _ => rfl,
      (timerRequest_stopped timerResume).refuses fun _ => rfl,
      (unitRequest_stopped armRequest).refuses fun _ => rfl,
      (unitRequest_stopped triggerRequest).refuses fun _ => rfl,
      (unitRequest_stopped abortRequest).refuses fun _ => rfl, nofun⟩

end Sys2Proof.Machine

namespace Sys2Proof.Machine

/-! ### What a run starts with (R191, R146) -/

/-- The operations on the first `k + 1` entries are those on the first `k`, then the one on entry `k`. -/
theorem foldl_take_succ {α : Type} {n : Nat} (f : α → Fin n → α) (a : α) (k : Fin n) :
    ((List.finRange n).take (k.val + 1)).foldl f a = f (((List.finRange n).take k.val).foldl f a) k := by
  have entry : (List.finRange n)[k.val]? = some k := by simp
  rw [List.take_add_one, entry, Option.toList_some, List.foldl_append, List.foldl_cons, List.foldl_nil]

theorem not_mem_take_finRange {n : Nat} (k : Fin n) : k ∉ (List.finRange n).take k.val := by
  simp only [List.mem_take_iff_getElem, List.getElem_finRange, not_exists]
  intro i hi e
  have below : i < k.val := (lt_min_iff.1 hi).1
  exact absurd (congrArg Fin.val e) (Nat.ne_of_lt below)

/-- R191, R146: the run prepared, and the units below `n` with arm-at-run armed or reported. -/
def State.runPrepared (s : State) (n : Nat) : State := ((List.finRange 4).take n).foldl State.armAtRun s.prepareRun

theorem runPrepared_succ (s : State) (k : Fin 4) : s.runPrepared (k.val + 1) = (s.runPrepared k.val).armAtRun k :=
  foldl_take_succ State.armAtRun s.prepareRun k

theorem runPrepared_only (s : State) (n : Nat) : OnlyUnits s.prepareRun (s.runPrepared n) :=
  OnlyUnits.foldl _ armAtRun_only _ _

theorem take_four_finRange : (List.finRange 4).take 4 = List.finRange 4 := List.take_of_length_le List.length_finRange.le

/-- R191: the interface enters SEEKING or RECEIVING when every unit has had its turn. -/
theorem startRun_eq (s : State) :
    s.startRun = { s.runPrepared 4 with iface := enteredInterface s.setup (preparedInterface s.iface) } := by
  have only := runPrepared_only s 4
  have setup : (s.runPrepared 4).setup = s.setup := only.setup
  have iface : (s.runPrepared 4).iface = preparedInterface s.iface := only.iface
  rw [← setup, ← iface, State.runPrepared, take_four_finRange, State.startRun]

@[simp] theorem startRun_engine (s : State) : s.startRun.engine = .running := by
  rw [startRun_eq]; exact (runPrepared_only s 4).engine
@[simp] theorem startRun_runNumber (s : State) : s.startRun.runNumber = nextFromOne s.runNumber := by
  rw [startRun_eq]; exact (runPrepared_only s 4).runNumber
@[simp] theorem startRun_setup (s : State) : s.startRun.setup = s.setup := by
  rw [startRun_eq]; exact (runPrepared_only s 4).setup
@[simp] theorem startRun_image (s : State) : s.startRun.image = s.image := by
  rw [startRun_eq]; exact (runPrepared_only s 4).image
@[simp] theorem startRun_startup (s : State) : s.startRun.startup = s.startup := by
  rw [startRun_eq]; exact (runPrepared_only s 4).startup
@[simp] theorem startRun_measures (s : State) : s.startRun.measures = tab fun _ => clearedMeasure := by
  rw [startRun_eq]; exact (runPrepared_only s 4).measures
@[simp] theorem startRun_conditions (s : State) :
    s.startRun.conditions = tab fun c => runCondition s.setup.conditions[c] s.conditions[c] := by
  rw [startRun_eq]; exact (runPrepared_only s 4).conditions
@[simp] theorem startRun_timers (s : State) :
    s.startRun.timers = tab fun k => runTimer s.setup.timers[k] s.timers[k] := by
  rw [startRun_eq]; exact (runPrepared_only s 4).timers
@[simp] theorem startRun_actionLevels (s : State) : s.startRun.actionLevels = s.actionLevels := by
  rw [startRun_eq]; exact (runPrepared_only s 4).actionLevels
@[simp] theorem startRun_inputs (s : State) : s.startRun.inputs = s.inputs := by
  rw [startRun_eq]; exact (runPrepared_only s 4).inputs
@[simp] theorem startRun_pending (s : State) : s.startRun.pending = s.pending := by
  rw [startRun_eq]; exact (runPrepared_only s 4).pending

theorem startRun_iface (s : State) : s.startRun.iface = enteredInterface s.setup (preparedInterface s.iface) := by
  rw [startRun_eq]

/-- R191: what an interface that enters a run holds, whichever clock source it has. -/
theorem enteredInterface_eq (u : Setup) (i : FrameInterface) :
    ∃ due phase, enteredInterface u i =
      { i with
        state := match u.interface.source with | .follower => .seeking | .provider => .receiving
        lastFsy := false, fsyLow := false, firstFsyDue := due, fsyPhase := phase, syncTimer := none
        sckHigh := false } := by
  unfold enteredInterface
  cases u.interface.source with
  | follower => exact ⟨_, _, rfl⟩
  | provider => exact ⟨_, _, rfl⟩

/-- From `s` to `t` rings are claimed: of the store only the free list and the low-water state change, and no event but STORE_LOW comes. -/
structure RingsClaimed (s t : State) : Prop where
  mem    : t.store.mem = s.store.mem
  index  : t.store.index = s.store.index
  nextId : t.store.nextId = s.store.nextId
  events : ∀ e ∈ t.events, e ∈ s.events ∨ e = evStoreLow

namespace RingsClaimed

variable {s t u : State}

theorem of_eq (store : t.store = s.store) (events : t.events = s.events) : RingsClaimed s t :=
  ⟨by rw [store], by rw [store], by rw [store], fun e he => .inl (events ▸ he)⟩

theorem trans (h : RingsClaimed s t) (g : RingsClaimed t u) : RingsClaimed s u :=
  ⟨g.mem.trans h.mem, g.index.trans h.index, g.nextId.trans h.nextId,
    fun e he => (g.events e he).elim (h.events e) .inr⟩

theorem foldl {α : Type} {f : State → α → State} (hf : ∀ s x, RingsClaimed s (f s x)) (xs : List α) (s : State) :
    RingsClaimed s (xs.foldl f s) := by
  induction xs generalizing s with
  | nil => exact of_eq rfl rfl
  | cons x xs ih => exact (hf s x).trans (ih _)

theorem tryArm {k : Fin 4} (e : s.tryArm k = some t) : RingsClaimed s t := by
  unfold State.tryArm at e
  split at e
  · rename_i granted
    obtain ⟨-, -, -, -, -, store, events⟩ := claim_some granted
    cases e
    refine ⟨?_, ?_, ?_, fun id hid => ?_⟩
    · rw [State.setUnitState_store, store]
    · rw [State.setUnitState_store, store]
    · rw [State.setUnitState_store, store]
    · rw [State.setUnitState_events] at hid
      rcases events with same | low
      · exact .inl (same ▸ hid)
      · rw [low] at hid
        exact ((mem_insertId _ _ _).1 hid).symm
  · cases e

theorem armAtRun (s : State) (k : Fin 4) : RingsClaimed s (s.armAtRun k) := by
  have reported : ∀ n, RingsClaimed s (s.notify n) := fun _ => of_eq rfl rfl
  unfold State.armAtRun State.armUnitBy State.armOrReport
  split
  · split
    · split
      · exact tryArm (by assumption)
      · exact reported _
    all_goals exact of_eq rfl rfl
  · exact of_eq rfl rfl

theorem startRun (s : State) : RingsClaimed s.prepareRun s.startRun := by
  rw [startRun_eq]
  exact (foldl armAtRun _ s.prepareRun).trans (of_eq rfl rfl)

end RingsClaimed

theorem startRun_noticesGrow (s : State) : NoticesGrow s s.startRun := by
  rw [startRun_eq]
  exact noticesGrow_unitClosed.foldl noticesGrow_unitClosed.armAtRun _ s.prepareRun

/-! ### What a stop leaves (R192, R147) -/

/-- R192, R147: the blocks halted, and the units below `n` stopped. -/
def State.unitsStopped (s : State) (n : Nat) : State :=
  ((List.finRange 4).take n).foldl (fun a k => a.stopUnit k) s.haltBlocks

theorem unitsStopped_succ (s : State) (k : Fin 4) : s.unitsStopped (k.val + 1) = (s.unitsStopped k.val).stopUnit k :=
  foldl_take_succ (fun (a : State) (k : Fin 4) => a.stopUnit k) s.haltBlocks k

theorem unitsStopped_only (s : State) (n : Nat) : OnlyUnits s.haltBlocks (s.unitsStopped n) :=
  OnlyUnits.foldl _ (fun a k => stopUnit_only k a) _ _

theorem stopEngine_eq (s : State) : s.stopEngine = s.unitsStopped 4 := by
  rw [State.unitsStopped, take_four_finRange, State.stopEngine]

theorem stopEngine_only (s : State) : OnlyUnits s.haltBlocks s.stopEngine := stopEngine_eq s ▸ unitsStopped_only s 4

@[simp] theorem stopEngine_engine (s : State) : s.stopEngine.engine = .stopped := (stopEngine_only s).engine
@[simp] theorem stopEngine_iface (s : State) : s.stopEngine.iface = stoppedInterface s.iface := (stopEngine_only s).iface
@[simp] theorem stopEngine_conditions (s : State) :
    s.stopEngine.conditions = tab fun c => { s.conditions[c] with phase := .disarmed, runCount := 0 } :=
  (stopEngine_only s).conditions
@[simp] theorem stopEngine_timers (s : State) :
    s.stopEngine.timers = tab fun k => { s.timers[k] with phase := .idle } := (stopEngine_only s).timers
@[simp] theorem stopEngine_measures (s : State) :
    s.stopEngine.measures = tab fun m => { s.measures[m] with fresh := false } := (stopEngine_only s).measures

/-- R85: while STOPPED the units' work places no event. -/
theorem eventsStandStopped_unitClosed :
    UnitClosed fun s t => s.engine = .stopped → t.engine = .stopped ∧ t.events = s.events where
  refl _ stopped := ⟨stopped, rfl⟩
  trans h g stopped :=
    have ⟨still, same⟩ := h stopped
    ⟨(g still).1, (g still).2.trans same⟩
  raise id s stopped := by rw [State.raise_stopped id s stopped]; exact ⟨stopped, rfl⟩
  notify _ _ stopped := ⟨stopped, rfl⟩
  setUnit _ _ _ stopped := ⟨stopped, rfl⟩
  store _ _ stopped := ⟨stopped, rfl⟩

@[simp] theorem stopEngine_events (s : State) : s.stopEngine.events = [] :=
  (eventsStandStopped_unitClosed.foldl (fun a k => eventsStandStopped_unitClosed.stopUnit k a) (List.finRange 4)
    s.haltBlocks rfl).2

theorem stopUnit_units (k : Fin 4) (s : State) :
    (s.stopUnit k).units = if s.units[k].phase = .idle then s.units else put s.units k clearedUnit := by
  unfold State.stopUnit
  split
  · rename_i idle; rw [if_pos idle]
  · rename_i filling; rw [filling, if_neg (by decide)]; rfl
  · rename_i armed; rw [armed, if_neg (by decide)]; rfl
  · rename_i post
    rw [post, if_neg (by decide), closeCapture_units]
    exact put_put _ _ _ _

theorem stopUnit_others {j k : Fin 4} (s : State) (h : j ≠ k) : (s.stopUnit j).units[k] = s.units[k] := by
  rw [stopUnit_units]
  split
  · rfl
  · exact put_get_ne _ _ _ _ h.symm

/-- R147: a unit finds itself at its own turn as it was before the stop. -/
theorem unitsStopped_before (s : State) (k : Fin 4) : (s.unitsStopped k.val).units[k] = s.units[k] :=
  foldl_others (view := fun a : State => a.units[k]) (fun a _ other => stopUnit_others a other) _ s.haltBlocks
    (not_mem_take_finRange k)

/-- R147, R192: after a stop every unit is IDLE, its working record cleared if it was busy. -/
theorem stopEngine_units (s : State) (k : Fin 4) :
    s.stopEngine.units[k] = if s.units[k].phase = .idle then s.units[k] else clearedUnit := by
  obtain ⟨before, seen, own⟩ := foldl_ownTurn (view := fun a : State => a.units[k])
    (fun a _ other => stopUnit_others a other) (List.nodup_finRange 4) (List.mem_finRange k) s.haltBlocks
  have seen : before.units[k] = s.units[k] := seen
  refine own.trans ?_
  rw [stopUnit_units, seen]
  split
  · exact seen
  · exact put_get_self _ _ _

theorem stopEngine_idle (s : State) (k : Fin 4) : s.stopEngine.units[k].phase = .idle := by
  rw [stopEngine_units]
  split
  · assumption
  · rfl

/-! ### A setup taken up (R193, R40, R81, R154, R113) -/

/-- R193: what the blocks hold of a new setup, the filter times aside. -/
def State.setupWritten (u : Setup) (s : State) : State :=
  { s with
    setup := u
    measures := tab fun _ => clearedMeasure
    timers := tab fun k => { s.timers[k] with count := 0 }
    store := { s.store with low := lowState s.store.free.length u.store.lowWater } }

theorem takeUp_eq (u : Setup) (s : State) : s.takeUp u = State.refilter 1 (State.refilter 0 (s.setupWritten u)) := rfl

theorem takeUp_only (u : Setup) (s : State) : OnlyInputs (s.setupWritten u) (s.takeUp u) :=
  (refilter_only 0 _).trans (refilter_only 1 _)

/-- R112: an input accepted while STOPPED places no event. -/
theorem refilter_events_stopped {s : State} (stopped : s.engine = .stopped) (i : Fin 2) :
    (s.refilter i).events = s.events := by
  unfold State.refilter State.measureHold State.acceptInput
  split
  · rfl
  · split
    · rw [State.raise_stopped]
      exact stopped
    · rfl

theorem takeUp_events_stopped {s : State} (stopped : s.engine = .stopped) (u : Setup) : (s.takeUp u).events = s.events := by
  have first : ((s.setupWritten u).refilter 0).engine = .stopped := (refilter_only 0 _).engine.trans stopped
  rw [takeUp_eq, refilter_events_stopped first, refilter_events_stopped (s := s.setupWritten u) stopped]
  rfl

/-- R113: a filter time that changes judges a hold measurement by the time it has run. -/
theorem InputState.heldOn_zero (i : InputState) (filter : Nat) :
    i.heldOn filter 0 =
      match i.hold with
      | none => i
      | some time => if filterReached time filter then { i with filtered := i.pin, hold := none } else i := by
  unfold InputState.heldOn InputState.held
  cases holding : i.hold with
  | none => rfl
  | some time =>
    have running : { i with hold := some time } = i := by rw [← holding]
    exact congrArg (ite _ _) running

/-- R193: a setup that replaces the working setup while STOPPED is taken up by every block. -/
theorem takenUp {s : State} (stopped : s.engine = .stopped) (u : Setup) : TakenUp u s (s.takeUp u) := by
  have only := takeUp_only u s
  have events := takeUp_events_stopped stopped u
  refine ⟨only.setup, fun m => ?_, takeUp_timers u s, only.store, fun i => ?_, ?_⟩
  · rw [only.measures]; exact tab_get _ m
  · rw [takeUp_inputs]; exact s.inputs[i].heldOn_zero _
  · have base := congrArg (fun t : State => { t with
      setup := s.setup, measures := s.measures, timers := s.timers, store := s.store, inputs := s.inputs }) only.rest
    have same : (s.setupWritten u).events = (s.takeUp u).events := events.symm
    have back : ({ s with events := (s.takeUp u).events } : State) = s := by rw [events]
    rw [same] at base
    exact base.trans back

end Sys2Proof.Machine

namespace Sys2Proof.Machine

/-! ### The engine at rest, in a run, and between the two (R189, R9, R3; log 16)

What `EngineConsistent` says is taken apart: what the blocks hold, by the engine state, and in which stages the dispatcher may be. A run starts and stops the blocks whole; only a row that ends or begins a reload touches the stages. -/

/-- R189: what the blocks hold while the engine is STOPPED. -/
structure AtRest (s : State) : Prop where
  units      : ∀ k : Fin 4, s.units[k].phase = .idle
  conditions : ∀ c : Fin 32, s.conditions[c].phase = .disarmed
  timers     : ∀ t : Fin 4, s.timers[t].phase = .idle
  events     : s.events = []
  iface      : s.iface.state = .off ∧ s.iface.holding = none ∧ s.iface.syncTimer = none

/-- R3, R11: in PROVIDER clocking sync is neither sought nor lost. -/
def State.ProviderSynced (s : State) : Prop :=
  s.setup.interface.source = .provider → s.iface.syncTimer = none ∧ s.iface.state ≠ .lost ∧ s.iface.state ≠ .seeking

/-- R189, R9, R3: the blocks are at rest, or in a run, as the engine is. -/
structure BlocksConsistent (s : State) : Prop where
  rest      : s.engine = .stopped → AtRest s
  runNumber : s.engine = .running → s.runNumber ≠ 0
  receiving : s.engine = .running → s.iface.state ≠ .off
  provider  : s.ProviderSynced

/-- R196, R198, R199: the dispatcher's stages during start-up and while a setup is reloaded (log 16). -/
structure StagesConsistent (s : State) : Prop where
  startup   : s.startup ≠ none → s.link.dispatcher = .idle ∨ s.link.dispatcher = .executing .begun
  reloading : s.startup ≠ none ∨ s.link.dispatcher = .executing .restarting ∨ s.link.dispatcher = .waiting .loading →
    s.engine = .stopped

theorem engineConsistent_iff (s : State) : EngineConsistent s ↔ BlocksConsistent s ∧ StagesConsistent s := by
  constructor
  · exact fun h => ⟨⟨fun e => ⟨h.units e, h.conditions e, h.timers e, h.events e, h.iface e⟩, h.runNumber, h.receiving,
      h.provider⟩, h.startup, h.reloading⟩
  · exact fun ⟨blocks, stages⟩ => ⟨fun e => (blocks.rest e).units, fun e => (blocks.rest e).conditions,
      fun e => (blocks.rest e).timers, fun e => (blocks.rest e).events, fun e => (blocks.rest e).iface, blocks.runNumber,
      blocks.receiving, blocks.provider, stages.startup, stages.reloading⟩

/-- Blocks at rest are consistent with a STOPPED engine, whatever the setup. -/
theorem BlocksConsistent.of_rest {s : State} (stopped : s.engine = .stopped) (rest : AtRest s) : BlocksConsistent s where
  rest _ := rest
  runNumber running := nomatch stopped.symm.trans running
  receiving running := nomatch stopped.symm.trans running
  provider _ := by
    obtain ⟨off, -, timer⟩ := rest.iface
    rw [off]
    exact ⟨timer, by decide, by decide⟩

/-- After start-up only a reload bars the engine from running. -/
theorem StagesConsistent.of_started {s : State} (started : s.startup = none)
    (restart : s.link.dispatcher ≠ .executing .restarting) (load : s.link.dispatcher ≠ .waiting .loading) :
    StagesConsistent s where
  startup starting := absurd started starting
  reloading
    | .inl starting => absurd started starting
    | .inr (.inl restarting) => absurd restarting restart
    | .inr (.inr loading) => absurd loading load

theorem StagesConsistent.stands {s t : State} (h : StagesConsistent s) (startup : t.startup = s.startup)
    (dispatcher : t.link.dispatcher = s.link.dispatcher) (engine : t.engine = s.engine) : StagesConsistent t :=
  ⟨by rw [startup, dispatcher]; exact h.startup, by rw [startup, dispatcher, engine]; exact h.reloading⟩

/-- From `s` to `t` the queue of commands, start-up and the dispatcher stand, and consistent blocks stay so. -/
structure BlocksKept (s t : State) : Prop where
  pending    : t.pending = s.pending
  startup    : t.startup = s.startup
  dispatcher : t.link.dispatcher = s.link.dispatcher
  blocks     : BlocksConsistent s → BlocksConsistent t

/-- From `s` to `t` the engine state stands as well. -/
structure EngineStays (s t : State) : Prop extends BlocksKept s t where
  engine : t.engine = s.engine

/-- What the invariant reads of a state, the blocks' tables aside. -/
def State.engineView (s : State) :
    List Instr × Option ResetCause × Dispatcher × EngineState × RunNumber × ClockSource × IfaceState × Option Nat :=
  (s.pending, s.startup, s.link.dispatcher, s.engine, s.runNumber, s.setup.interface.source, s.iface.state,
    s.iface.syncTimer)

namespace EngineStays

variable {s t u : State}

theorem refl (s : State) : EngineStays s s := ⟨⟨rfl, rfl, rfl, id⟩, rfl⟩

theorem trans (h : EngineStays s t) (g : EngineStays t u) : EngineStays s u :=
  ⟨⟨g.pending.trans h.pending, g.startup.trans h.startup, g.dispatcher.trans h.dispatcher, g.blocks ∘ h.blocks⟩,
    g.engine.trans h.engine⟩

theorem of_view (view : t.engineView = s.engineView) (rest : s.engine = .stopped → AtRest s → AtRest t) :
    EngineStays s t := by
  simp only [State.engineView, Prod.mk.injEq] at view
  obtain ⟨pending, startup, dispatcher, engine, runNumber, source, state, timer⟩ := view
  refine ⟨⟨pending, startup, dispatcher, fun h => ⟨fun stopped => ?_, fun running => ?_, fun running => ?_, ?_⟩⟩, engine⟩
  · exact rest (engine ▸ stopped) (h.rest (engine ▸ stopped))
  · rw [runNumber]; exact h.runNumber (engine ▸ running)
  · rw [state]; exact h.receiving (engine ▸ running)
  · rw [State.ProviderSynced, source, state, timer]; exact h.provider

/-- Where the blocks' tables stand as well. -/
theorem stands (view : t.engineView = s.engineView) (units : t.units = s.units) (conditions : t.conditions = s.conditions)
    (timers : t.timers = s.timers) (events : t.events = s.events) (holding : t.iface.holding = s.iface.holding) :
    EngineStays s t := by
  refine of_view view fun _ h => ?_
  simp only [State.engineView, Prod.mk.injEq] at view
  obtain ⟨-, -, -, -, -, -, state, timer⟩ := view
  exact ⟨units ▸ h.units, conditions ▸ h.conditions, timers ▸ h.timers, events.trans h.events,
    by rw [state, holding, timer]; exact h.iface⟩

theorem store (st : Store) (s : State) : EngineStays s { s with store := st } := stands rfl rfl rfl rfl rfl rfl

theorem image (i : SetupImage) (s : State) : EngineStays s { s with image := i } := stands rfl rfl rfl rfl rfl rfl

theorem link {l : Link} (dispatcher : l.dispatcher = s.link.dispatcher) : EngineStays s { s with link := l } :=
  stands (by simp only [State.engineView, dispatcher]) rfl rfl rfl rfl rfl

theorem notify (n : Notice) (s : State) : EngineStays s (s.notify n) := link (Link.offerNotice_dispatcher n s.link)

theorem noticeSent (s : State) : EngineStays s s.noticeSent := link (Link.noticeSent_queues s.link).2.1

/-- R85: an event raised while STOPPED is not collected. -/
theorem raise (id : EventId) (s : State) : EngineStays s (s.raise id) := by
  cases e : s.engine with
  | stopped => rw [State.raise_stopped id s e]; exact refl s
  | running => exact of_view (by simp [State.engineView]) fun stopped => nomatch e.symm.trans stopped

theorem foldl {α : Type} {f : State → α → State} (hf : ∀ s x, EngineStays s (f s x)) (xs : List α) (s : State) :
    EngineStays s (xs.foldl f s) := by
  induction xs generalizing s with
  | nil => exact refl s
  | cons x xs ih => exact (hf s x).trans (ih _)

/-! The input lines (R111 to R113). -/

theorem measureHold (i : Fin 2) (time : Nat) (s : State) : EngineStays s (s.measureHold i time) := by
  have written : ∀ is, EngineStays s { s with inputs := is } := fun _ => stands rfl rfl rfl rfl rfl rfl
  unfold State.measureHold State.acceptInput
  split
  · exact (written _).trans (raise _ _)
  · exact written _

theorem holdPin (i : Fin 2) (periods : Nat) (s : State) : EngineStays s (s.holdPin i periods) := by
  unfold State.holdPin
  split
  · exact refl s
  · exact measureHold i _ s

theorem refilter (i : Fin 2) (s : State) : EngineStays s (s.refilter i) := by
  rw [refilter_eq_holdPin]
  exact holdPin i 0 s

theorem samplePin (i : Fin 2) (level : Bool) (s : State) : EngineStays s (s.samplePin i level) := by
  have written : ∀ is, EngineStays s { s with inputs := is } := fun _ => stands rfl rfl rfl rfl rfl rfl
  unfold State.samplePin
  dsimp only
  split
  · exact written _
  · split
    · exact (written _).trans (measureHold i 0 _)
    · exact written _

end EngineStays

/-! ### The stream (R1 to R13) -/

/-- From `s` to `t` an interface that is not OFF does not go OFF, and one in PROVIDER clocking keeps its sync. -/
structure SyncKept (s t : State) : Prop where
  receiving : s.iface.state ≠ .off → t.iface.state ≠ .off
  provider  : s.ProviderSynced → t.ProviderSynced

theorem SyncKept.stands {s t : State} (setup : t.setup = s.setup) (state : t.iface.state = s.iface.state)
    (timer : t.iface.syncTimer = s.iface.syncTimer) : SyncKept s t :=
  ⟨by rw [state]; exact id, fun synced source => by rw [state, timer]; exact synced (setup ▸ source)⟩

theorem SyncKept.trans {s t u : State} (h : SyncKept s t) (g : SyncKept t u) : SyncKept s u :=
  ⟨g.receiving ∘ h.receiving, g.provider ∘ h.provider⟩

/-- R11: in PROVIDER clocking a frame that starts measures no loss of sync. -/
theorem startFrame_syncKept (s : State) : SyncKept s s.startFrame where
  receiving := id
  provider synced source := by
    refine ⟨?_, (synced source).2⟩
    have source : s.setup.interface.source = .provider := source
    simp only [State.startFrame, source]

theorem boundary_syncKept (s : State) : SyncKept s s.boundary := by
  have advanced : SyncKept s
      (State.advanceTimers { s with iface := { s.iface with frameNumber := s.iface.frameNumber + 1 } }) := by
    obtain ⟨es, e, -⟩ := advanceTimers_eq { s with iface := { s.iface with frameNumber := s.iface.frameNumber + 1 } }
    rw [e]
    exact .stands rfl rfl rfl
  have ended : ∀ t : State, SyncKept t t.endFrame := by
    intro t
    obtain ⟨_, _, _, _, _, e, -⟩ := endFrame_ended t
    rw [e]
    exact .stands rfl rfl rfl
  exact (advanced.trans (ended _)).trans (startFrame_syncKept _)

/-- R10, R12, R13: a sync edge, by the state of the interface; in PROVIDER clocking none falls in SEEKING or LOST. -/
theorem syncEdge_syncKept (s : State) : SyncKept s s.syncEdge := by
  unfold State.syncEdge
  split
  · exact .stands rfl rfl rfl
  · rename_i seeking
    exact ⟨fun _ => by simp [State.startFrame], fun synced source => absurd seeking (synced source).2.2⟩
  · rename_i lost
    refine ⟨fun _ => by simp [State.regain, State.startFrame], fun synced source => ?_⟩
    rw [(regain_only s).setup] at source
    exact absurd lost (synced source).2.1
  · split
    · exact startFrame_syncKept s
    · exact boundary_syncKept s

theorem clock_syncKept (e : SckEdge) (s : State) : SyncKept s (s.clock e) := by
  have judged : SyncKept s ((s.noteSck e).judgeSync e) := by
    unfold State.judgeSync
    dsimp only
    split
    · split
      · have noted : SyncKept s ((s.noteSck e).noteFsy ((s.noteSck e).fsyLevel e)) := .stands rfl rfl rfl
        exact noted.trans (syncEdge_syncKept _)
      · exact .stands rfl rfl rfl
    · exact .stands rfl rfl rfl
  have sampled : SyncKept s (((s.noteSck e).judgeSync e).shiftIn e) := by
    obtain ⟨a, b, shifted⟩ := shiftIn_eq e ((s.noteSck e).judgeSync e)
    rw [shifted]
    exact judged.trans (.stands rfl rfl rfl)
  unfold State.clock
  split
  · exact .stands rfl rfl rfl
  all_goals exact sampled

namespace EngineStays

/-- An operation of the stream that cannot happen at rest. -/
theorem of_stream {s t : State} (only : OnlyStream s t) (dispatcher : t.link.dispatcher = s.link.dispatcher)
    (busy : ¬ AtRest s) (sync : s.ProviderSynced → SyncKept s t) : EngineStays s t := by
  refine ⟨⟨only.pending, only.startup, dispatcher, fun h => ?_⟩, only.engine⟩
  have running : s.engine ≠ .stopped := fun stopped => busy (h.rest stopped)
  have kept := sync h.provider
  refine ⟨fun stopped => absurd (only.engine ▸ stopped) running, ?_, ?_, kept.provider h.provider⟩
  · rw [only.engine, only.runNumber]; exact h.runNumber
  · rw [only.engine]; exact fun run => kept.receiving (h.receiving run)

theorem clock (e : SckEdge) (s : State) : EngineStays s (s.clock e) := by
  by_cases off : s.iface.state = .off
  · have same : s.clock e = s := by simp only [State.clock, off]
    rw [same]
    exact refl s
  · exact of_stream (clock_only e s) (controlStands_streamClosed.clock e s).dispatcher (fun rest => off rest.iface.1)
      fun _ => clock_syncKept e s

theorem clockAll (edges : List SckEdge) (s : State) : EngineStays s (s.clockAll edges) :=
  foldl (fun a e => clock e a) edges s

/-- R11: the sync-loss measurement runs neither at rest nor in PROVIDER clocking. -/
theorem quiet (periods : Nat) (s : State) : EngineStays s (s.quiet periods) := by
  cases timer : s.iface.syncTimer with
  | none =>
    have same : s.quiet periods = s := by simp only [State.quiet, timer]
    rw [same]
    exact refl s
  | some time =>
    have busy : ¬ AtRest s := fun rest => nomatch timer.symm.trans rest.iface.2.2
    refine of_stream (quiet_only periods s) (controlStands_streamClosed.quiet periods s).dispatcher busy fun synced => ?_
    have follower : s.setup.interface.source ≠ .provider := fun source => nomatch timer.symm.trans (synced source).1
    refine ⟨fun on => ?_, fun _ source => absurd ((quiet_only periods s).setup ▸ source) follower⟩
    simp only [State.quiet, timer]
    split
    · simp [State.loseSync]
    · exact on

end EngineStays

/-! ### The work of a run -/

/-- From `s` to `t`, the engine RUNNING, the engine state stands and consistent blocks stay so. -/
def RunGoesOn (s t : State) : Prop := s.engine = .running → EngineStays s t

namespace RunGoesOn

variable {s t u : State}

theorem refl (s : State) : RunGoesOn s s := fun _ => .refl s

theorem trans (h : RunGoesOn s t) (g : RunGoesOn t u) : RunGoesOn s u :=
  fun running => (h running).trans (g ((h running).engine.trans running))

theorem of_view (view : t.engineView = s.engineView) : RunGoesOn s t :=
  fun running => .of_view view fun stopped => nomatch running.symm.trans stopped

theorem unitClosed : UnitClosed RunGoesOn where
  refl := refl
  trans := trans
  raise id s _ := .raise id s
  notify n s _ := .notify n s
  setUnit _ _ _ := of_view rfl
  store st s _ := .store st s

theorem onCondition (op : ConditionSetup → ConditionState → ConditionState) (c : Fin 32) (s : State) :
    RunGoesOn s (s.onCondition op c) :=
  have only := onCondition_only op c s
  of_view (by simp only [State.engineView, only.pending, only.startup, only.link, only.engine, only.runNumber, only.setup,
    only.iface])

theorem workFrame (f : HeldFrame) (during : List StreamEvent) (s : State) : RunGoesOn s (s.workFrame f during) := by
  have evaluated : RunGoesOn s (s.evaluatedFrame f) := of_view rfl
  have conditioned : RunGoesOn (s.evaluatedFrame f)
      ((List.finRange 32).foldl (fun a c => a.conditionAction (s.firedAt f) c) (s.evaluatedFrame f)) :=
    have only := conditionActions_only (s.firedAt f) (s.evaluatedFrame f)
    of_view (by simp only [State.engineView, only.pending, only.startup, only.link, only.engine, only.runNumber, only.setup,
      only.iface])
  have lined : ∀ a : State, RunGoesOn a ((List.finRange 4).foldl (fun a o => a.lineAction (s.firedAt f) o) a) := fun a =>
    have only := lineActions_only (s.firedAt f) a
    of_view (by simp only [State.engineView, only.pending, only.startup, only.link, only.engine, only.runNumber, only.setup,
      only.iface])
  have timed : ∀ t a, RunGoesOn a (a.timerAction (s.firedAt f) t) := fun t a =>
    have only := timerAction_only (s.firedAt f) t a
    of_view (by simp only [State.engineView, only.pending, only.startup, only.link, only.engine, only.runNumber, only.setup,
      only.iface])
  rw [workFrame_lined]
  exact ((evaluated.trans conditioned).trans (lined _)).trans (interleave_keeps _ _ _ refl (fun _ _ _ => trans)
    (fun e a _ => .clock e a) (fun n a _ => .quiet n a) (fun a _ => .noticeSent a) timed (fun _ a _ => .notify _ a)
    (fun k a => unitClosed.unitWork _ _ _ a k) _ _ _ _ _)

end RunGoesOn

/-! ### Runs, stops and setups taken up as a whole (R191 to R193) -/

/-- R191, R9: a run that starts finds its blocks prepared, whatever they were. -/
theorem startRun_blocks (s : State) : BlocksConsistent s.startRun where
  rest stopped := nomatch (startRun_engine s).symm.trans stopped
  runNumber _ := by rw [startRun_runNumber]; exact nextFromOne_ne_zero _
  receiving _ := by
    obtain ⟨due, phase, e⟩ := enteredInterface_eq s.setup (preparedInterface s.iface)
    rw [startRun_iface, e]
    dsimp only
    split <;> decide
  provider source := by
    obtain ⟨due, phase, e⟩ := enteredInterface_eq s.setup (preparedInterface s.iface)
    rw [startRun_setup] at source
    rw [startRun_iface, e]
    dsimp only
    rw [source]
    exact ⟨rfl, by decide, by decide⟩

theorem startRun_kept (s : State) : BlocksKept s s.startRun :=
  ⟨startRun_pending s, startRun_startup s, (startRun_controlStands s).dispatcher, fun _ => startRun_blocks s⟩

/-- R192: a stop leaves the blocks at rest, whatever they were. -/
theorem stopEngine_rest (s : State) : AtRest s.stopEngine where
  units := stopEngine_idle s
  conditions c := by rw [stopEngine_conditions, tab_get]
  timers k := by rw [stopEngine_timers, tab_get]
  events := stopEngine_events s
  iface := by rw [stopEngine_iface]; exact ⟨rfl, rfl, rfl⟩

theorem stopEngine_kept (s : State) : BlocksKept s s.stopEngine :=
  ⟨(stopEngine_only s).pending, (stopEngine_only s).startup, (stopEngine_controlStands s).dispatcher,
    fun _ => .of_rest (stopEngine_engine s) (stopEngine_rest s)⟩

/-- A setup written while STOPPED leaves the blocks at rest. -/
theorem EngineStays.writeSetup {s t : State} (stopped : s.engine = .stopped) (pending : t.pending = s.pending)
    (startup : t.startup = s.startup) (dispatcher : t.link.dispatcher = s.link.dispatcher) (engine : t.engine = s.engine)
    (rest : AtRest s → AtRest t) : EngineStays s t :=
  ⟨⟨pending, startup, dispatcher, fun h => .of_rest (engine.trans stopped) (rest (h.rest stopped))⟩, engine⟩

/-- R193: while STOPPED the blocks take up a setup at rest. -/
theorem EngineStays.takeUp {s : State} (stopped : s.engine = .stopped) (u : Setup) : EngineStays s (s.takeUp u) := by
  have loaded : EngineStays s (State.markLow { s with
      setup := u, measures := tab fun _ => clearedMeasure, timers := tab fun t => { s.timers[t] with count := 0 } }) :=
    writeSetup stopped rfl rfl rfl rfl fun h =>
      ⟨h.units, h.conditions, fun k => (congrArg TimerState.phase (tab_get _ k)).trans (h.timers k), h.events, h.iface⟩
  exact (loaded.trans (refilter 0 _)).trans (refilter 1 _)

/-! ### The requests that are answered at once -/

namespace BlocksKept

variable {s t : State}

theorem of_stays (h : EngineStays s t) : BlocksKept s t := h.toBlocksKept

/-- One entry of a table written whose phase stands. -/
theorem put_phase {α β : Type} {n : Nat} {v : Vector α n} {x : α} {k : Fin n} (phase : α → β) {rest : β}
    (hv : ∀ j : Fin n, phase v[j] = rest) (hx : phase x = phase v[k]) (j : Fin n) : phase (put v k x)[j] = rest :=
  put_inRange (R := fun a => phase a = rest) k hv (hx.trans (hv k)) j

theorem setPort (p : List Byte) (s : State) : BlocksKept s (setPort p s).1 := by
  rcases setPort_cases p s with e | ⟨u, stopped, -, e, -⟩ <;> rw [e]
  · exact of_stays (.refl s)
  · exact of_stays (.writeSetup stopped rfl rfl rfl rfl fun h =>
      ⟨h.units, h.conditions, h.timers, h.events, h.iface⟩)

theorem setMeasure (p : List Byte) (s : State) : BlocksKept s (setMeasure p s).1 := by
  rcases setMeasure_cases p s with e | ⟨m, u, -, -, e⟩ <;> rw [e]
  · exact of_stays (.refl s)
  · exact of_stays (.stands rfl rfl rfl rfl rfl rfl)

theorem setCondition (p : List Byte) (s : State) : BlocksKept s (setCondition p s).1 := by
  rcases setCondition_cases p s with e | ⟨c, u, -, -, e⟩ <;> rw [e]
  · exact of_stays (.refl s)
  · exact of_stays (.of_view rfl fun _ h =>
      ⟨h.units, put_phase ConditionState.phase h.conditions rfl, h.timers, h.events, h.iface⟩)

theorem setTimer (p : List Byte) (s : State) : BlocksKept s (setTimer p s).1 := by
  rcases setTimer_cases p s with e | ⟨k, u, -, -, e⟩ <;> rw [e]
  · exact of_stays (.refl s)
  · exact of_stays (.of_view rfl fun _ h =>
      ⟨h.units, h.conditions, put_phase TimerState.phase h.timers rfl, h.events, h.iface⟩)

theorem setBinding (p : List Byte) (s : State) : BlocksKept s (setBinding p s).1 := by
  rcases setBinding_cases p s with e | ⟨b, r, -, e⟩ <;> rw [e]
  · exact of_stays (.refl s)
  · exact of_stays (.stands rfl rfl rfl rfl rfl rfl)

theorem setUnit (p : List Byte) (s : State) : BlocksKept s (setUnit p s).1 := by
  rcases setUnit_cases p s with e | ⟨k, u, idle, -, e⟩ <;> rw [e]
  · exact of_stays (.refl s)
  · exact of_stays (.of_view rfl fun _ h =>
      ⟨put_phase UnitState.phase h.units idle.symm, h.conditions, h.timers, h.events, h.iface⟩)

theorem setLine (p : List Byte) (s : State) : BlocksKept s (setLine p s).1 := by
  rcases setLine_cases p s with e | ⟨o, u, e⟩ | ⟨i, f, -, e⟩ <;> rw [e]
  · exact of_stays (.refl s)
  · exact of_stays (.stands rfl rfl rfl rfl rfl rfl)
  · have written : EngineStays s { s with setup := { s.setup with filters := put s.setup.filters i f } } :=
      .stands rfl rfl rfl rfl rfl rfl
    exact of_stays (written.trans (.refilter i _))

theorem setStore (p : List Byte) (s : State) : BlocksKept s (setStore p s).1 := by
  rcases setStore_cases p s with e | ⟨u, -, e⟩ <;> rw [e]
  · exact of_stays (.refl s)
  · exact of_stays (.stands rfl rfl rfl rfl rfl rfl)

theorem autorunRequest (p : List Byte) (s : State) : BlocksKept s (autorunRequest p s).1 := by
  rcases autorunRequest_cases p s with e | ⟨b, e⟩ <;> rw [e]
  · exact of_stays (.refl s)
  · exact of_stays (.stands rfl rfl rfl rfl rfl rfl)

theorem defaultRequest (p : List Byte) (s : State) : BlocksKept s (defaultRequest p s).1 := by
  rcases defaultRequest_cases p s with e | ⟨stopped, e⟩ <;> rw [e]
  · exact of_stays (.refl s)
  · exact of_stays (.takeUp stopped _)

theorem runRequest (p : List Byte) (s : State) : BlocksKept s (runRequest p s).1 := by
  rcases runRequest_cases p s with e | ⟨-, -, e⟩ <;> rw [e]
  · exact of_stays (.refl s)
  · exact startRun_kept s

theorem stopRequest (p : List Byte) (s : State) : BlocksKept s (stopRequest p s).1 := by
  rcases stopRequest_cases p s with e | ⟨-, e⟩ <;> rw [e]
  · exact of_stays (.refl s)
  · exact stopEngine_kept s

theorem statusRequest (p : List Byte) (s : State) : BlocksKept s (statusRequest p s).1 := by
  rcases statusRequest_cases p s with e | e <;> rw [e]
  · exact of_stays (.refl s)
  · exact of_stays (.link rfl)

theorem conditionRequest (op : ConditionSetup → ConditionState → ConditionState) (p : List Byte) (s : State) :
    BlocksKept s (conditionRequest op p s).1 := by
  rcases conditionRequest_cases op p s with e | ⟨c, running, e⟩ <;> rw [e]
  · exact of_stays (.refl s)
  · exact of_stays (RunGoesOn.onCondition op c s running)

theorem timerRequest (op : TimerSetup → TimerState → TimerState) (p : List Byte) (s : State) :
    BlocksKept s (timerRequest op p s).1 := by
  rcases timerRequest_cases op p s with e | ⟨k, running, e⟩ <;> rw [e]
  · exact of_stays (.refl s)
  · exact of_stays (RunGoesOn.of_view rfl running)

theorem fire (p : List Byte) (s : State) : BlocksKept s (fire p s).1 := by
  rcases fire_cases p s with e | ⟨ns, -, e⟩ <;> rw [e]
  · exact of_stays (.refl s)
  · exact of_stays (.foldl (fun a n => .raise (evSoft n) a) ns s)

theorem driveLine (p : List Byte) (s : State) : BlocksKept s (driveLine p s).1 := by
  rcases driveLine_cases p s with e | ⟨op, o, e⟩ <;> rw [e]
  · exact of_stays (.refl s)
  · exact of_stays (.stands rfl rfl rfl rfl rfl rfl)

/-- R144: a unit request acts while RUNNING alone. -/
theorem unitRequest {act : Fin 4 → State → State × Answer} (acts : ∀ k s, RunGoesOn s (act k s).1) (p : List Byte)
    (s : State) : BlocksKept s (unitRequest act p s).1 := by
  rcases unitRequest_cases act p s with e | ⟨k, running, e⟩ <;> rw [e]
  · exact of_stays (.refl s)
  · exact of_stays (acts k s running)

theorem armRequest (k : Fin 4) (s : State) : RunGoesOn s (armRequest k s).1 := by
  rcases armRequest_cases k s with e | ⟨-, e⟩
  · rw [e]; exact .refl s
  · exact RunGoesOn.unitClosed.tryArm e

theorem triggerRequest (k : Fin 4) (s : State) : RunGoesOn s (triggerRequest k s).1 := by
  rcases triggerRequest_cases k s with e | ⟨-, e⟩ <;> rw [e]
  · exact .refl s
  · exact RunGoesOn.unitClosed.triggerUnitBy k _ _ _ s

theorem abortRequest (k : Fin 4) (s : State) : RunGoesOn s (abortRequest k s).1 := by
  rcases abortRequest_cases k s with e | ⟨-, e⟩ <;> rw [e]
  · exact .refl s
  · exact RunGoesOn.unitClosed.abortUnitBy k s

theorem holdCapture (p : List Byte) (s : State) : BlocksKept s (holdCapture p s).1 := by
  rcases holdCapture_cases p s with e | ⟨r, -, mark, e⟩ <;> rw [e]
  · exact of_stays (.refl s)
  · exact of_stays (.store _ s)

theorem releaseCapture (p : List Byte) (s : State) : BlocksKept s (releaseCapture p s).1 := by
  rcases releaseCapture_cases p s with e | ⟨r, -, e⟩ <;> rw [e]
  · exact of_stays (.refl s)
  · exact of_stays (.store _ s)

end BlocksKept

end Sys2Proof.Machine

namespace Sys2Proof.Machine

/-! ### The stages of the dispatcher (R177, R180; log 16) -/

/-- From `l` to `m` the dispatcher stands, or leaves IDLE for a request that has come (R177). -/
def Link.BeginsFromIdle (l m : Link) : Prop :=
  m.dispatcher = l.dispatcher ∨ l.dispatcher = .idle ∧ m.dispatcher = .executing .begun

namespace Link

theorem enqueue_beginsFromIdle (q : Request) (l : Link) : l.BeginsFromIdle (l.enqueue q) := by
  rw [BeginsFromIdle, enqueue_eq]
  cases l.dispatcher with
  | idle => exact .inr ⟨rfl, rfl⟩
  | executing _ => exact .inl rfl
  | waiting _ => exact .inl rfl

theorem offer_beginsFromIdle (starting : Bool) (q : Request) (l : Link) : l.BeginsFromIdle (l.offer starting q) := by
  unfold Link.offer
  split
  · exact l.enqueue_beginsFromIdle q
  · split
    · exact .inl (placeReply_dispatcher _ l)
    · exact .inl rfl

theorem endMessage_beginsFromIdle (starting : Bool) (len : Nat) (body : List Byte) (received : Nat) (l : Link) :
    l.BeginsFromIdle (l.endMessage starting len body received) := by
  unfold Link.endMessage
  split
  · split
    · exact l.hunt.offer_beginsFromIdle starting _
    · exact .inl rfl
  · exact .inl rfl

theorem takeByte_beginsFromIdle (starting : Bool) (b : Byte) (l : Link) : l.BeginsFromIdle (l.takeByte starting b) := by
  unfold Link.takeByte
  split
  · split <;> exact .inl rfl
  · split <;> exact .inl rfl
  · split <;> exact .inl rfl
  · exact .inl rfl
  · exact l.endMessage_beginsFromIdle starting _ _ _

theorem lineByte_beginsFromIdle (starting : Bool) (b : LrxByte) (l : Link) : l.BeginsFromIdle (l.lineByte starting b) := by
  unfold Link.lineByte
  dsimp only
  split
  · exact .inl rfl
  · split
    · exact takeByte_beginsFromIdle starting _ { l with receiver := { l.receiver with awaitHigh := !b.stop } }
    · exact .inl rfl

end Link

/-- The stages stand when a request that comes is begun: that is no reload. -/
theorem StagesConsistent.begins {s : State} {l : Link} (h : StagesConsistent s) (begins : s.link.BeginsFromIdle l) :
    StagesConsistent { s with link := l } := by
  rcases begins with same | ⟨idle, begun⟩
  · exact h.stands rfl same rfl
  · refine ⟨fun _ => .inr begun, fun reload => h.reloading ?_⟩
    rw [begun] at reload
    exact reload.imp_right fun other => other.elim nofun nofun

/-- R180: a settled reply leaves the dispatcher in no reload. -/
theorem StagesConsistent.settled {s : State} (started : s.startup = none) (r : Reply) :
    StagesConsistent { s with link := s.link.settle r } := by
  have stage : ∀ d, (∀ r, d ≠ .executing (.holding r)) → d ≠ .idle → d ≠ .executing .begun →
      (s.link.settle r).dispatcher ≠ d := by
    intro d held idle begun
    rcases Link.settle_cases r s.link with ⟨-, e⟩ | ⟨-, e⟩ <;> rw [e]
    · unfold Link.requestDone
      dsimp only
      split
      · exact idle.symm
      · exact begun.symm
    · exact (held r).symm
  exact .of_started started (stage _ nofun nofun nofun) (stage _ nofun nofun nofun)

theorem StagesConsistent.answer {s : State} (started : s.startup = none) (h : StagesConsistent s) (a : Answer) :
    StagesConsistent (s.answer a) := by
  unfold State.answer
  split
  · exact .settled started _
  · exact h

/-- R177: a request that is done leaves the dispatcher IDLE, or with the next one begun. -/
theorem StagesConsistent.requestDone {s : State} (started : s.startup = none) :
    StagesConsistent { s with link := s.link.requestDone } := by
  have stage : ∀ d, d ≠ .idle → d ≠ .executing .begun → s.link.requestDone.dispatcher ≠ d := by
    intro d idle begun
    unfold Link.requestDone
    dsimp only
    split
    · exact idle.symm
    · exact begun.symm
  exact .of_started started (stage _ nofun nofun) (stage _ nofun nofun)

/-- R199: a dispatcher that is past the check of a request shows that start-up is over. -/
theorem StagesConsistent.started {s : State} (h : StagesConsistent s) (idle : s.link.dispatcher ≠ .idle)
    (begun : s.link.dispatcher ≠ .executing .begun) : s.startup = none := by
  by_contra starting
  exact (h.startup starting).elim idle begun

/-- R177, R199: a request may be carried out after start-up, when the dispatcher has begun it. -/
theorem started_of_current {s : State} {q : Request} (h : s.current = some q) :
    s.startup = none ∧ s.link.dispatcher = .executing .begun := by
  unfold State.current at h
  split at h
  · assumption
  · cases h

/-- The link and start-up say nothing of the blocks. -/
theorem BlocksConsistent.control {s : State} (h : BlocksConsistent s) (startup : Option ResetCause) (l : Link) :
    BlocksConsistent { s with startup := startup, link := l } :=
  ⟨fun stopped => ⟨(h.rest stopped).units, (h.rest stopped).conditions, (h.rest stopped).timers, (h.rest stopped).events,
    (h.rest stopped).iface⟩, h.runNumber, h.receiving, h.provider⟩

theorem BlocksConsistent.link {s : State} (h : BlocksConsistent s) (l : Link) : BlocksConsistent { s with link := l } :=
  h.control s.startup l

theorem BlocksConsistent.answer {s : State} (h : BlocksConsistent s) (a : Answer) : BlocksConsistent (s.answer a) := by
  unfold State.answer
  split
  · exact h.link _
  · exact h

/-! ### The rows -/

/-- From `s` to `t` the commands that wait stand, and the engine stays consistent. -/
structure RowKept (s t : State) : Prop where
  pending : t.pending = s.pending
  engine  : EngineConsistent s → EngineConsistent t

namespace RowKept

variable {s t : State}

/-- The invariant, its two parts shown apart. -/
theorem of_parts (pending : t.pending = s.pending)
    (parts : BlocksConsistent s → StagesConsistent s → BlocksConsistent t ∧ StagesConsistent t) : RowKept s t :=
  ⟨pending, fun h =>
    have ⟨blocks, stages⟩ := (engineConsistent_iff s).1 h
    (engineConsistent_iff t).2 (parts blocks stages)⟩

theorem refl (s : State) : RowKept s s := ⟨rfl, id⟩

theorem of_stays (h : EngineStays s t) : RowKept s t :=
  of_parts h.pending fun blocks stages => ⟨h.blocks blocks, stages.stands h.startup h.dispatcher h.engine⟩

theorem relink {l : Link} (stages : StagesConsistent s → StagesConsistent { s with link := l }) :
    RowKept s { s with link := l } := of_parts rfl fun blocks h => ⟨blocks.link l, stages h⟩

/-- A row that is carried out under a condition on the state, and otherwise leaves it. -/
theorem of_ite {p : Prop} [Decidable p] (h : p → RowKept s t) : RowKept s (if p then t else s) := by
  split
  · exact h (by assumption)
  · exact refl s

theorem receive (bytes : List LrxByte) (s : State) : RowKept s (s.receive bytes) := by
  refine relink (l := bytes.foldl (fun l b => l.lineByte s.starting b) s.link) fun h => ?_
  generalize s.starting = starting
  induction bytes using List.reverseRecOn with
  | nil => exact h
  | append_singleton bs b ih =>
    rw [List.foldl_concat]
    exact ih.begins (Link.lineByte_beginsFromIdle starting b _)

/-- R180: the answer to a request that has been carried out. -/
theorem answered (h : BlocksKept s t) (started : s.startup = none)
    (stages : StagesConsistent s → StagesConsistent t) (a : Answer) : RowKept s (t.answer a) :=
  of_parts ((State.answer_pending a t).trans h.pending) fun blocks h' =>
    ⟨(h.blocks blocks).answer a, (stages h').answer (h.startup.trans started) a⟩

/-- R177: a request served; whatever its effect on the engine, the dispatcher is in no reload. -/
theorem serve {act : List Byte → State → State × Answer} (kind : Byte) (effect : ∀ p s, BlocksKept s (act p s).1)
    (s : State) : RowKept s (serve kind act s) := by
  refine onRequest_keeps (P := RowKept s) (fun q current => ?_) (refl s)
  obtain ⟨started, begun⟩ := started_of_current current
  have kept := effect q.payload s
  refine answered kept started (fun _ => ?_) _
  have still : (act q.payload s).1.link.dispatcher = .executing .begun := kept.dispatcher.trans begun
  exact .of_started (kept.startup.trans started) (by rw [still]; exact nofun) (by rw [still]; exact nofun)

/-- A request that reports and leaves the state. -/
theorem serve_report {act : List Byte → State → State × Answer} (kind : Byte) (report : ∀ p s, (act p s).1 = s)
    (s : State) : RowKept s (Machine.serve kind act s) :=
  serve kind (fun p s => (report p s).symm ▸ .of_stays (.refl s)) s

/-- A request answered with the state left. -/
theorem refused (a : Answer) (started : s.startup = none) : RowKept s (s.answer a) :=
  answered (.of_stays (.refl s)) started id a

/-! Start-up, restarts, saves and loads (R195, R196, R198, R199). -/

/-- R198, R199: what follows the reading of the image: READY, and the run when the checks pass. -/
theorem comeUp_kept (cause : ReadyCause) (s : State) : BlocksKept s (s.comeUp cause) := by
  have noticed : ∀ n, BlocksKept s (s.notify n) := fun n => .of_stays (.notify n s)
  have started : ∀ n, BlocksKept s (s.notify n).startRun := fun n =>
    have first := noticed n
    have then_ := startRun_kept (s.notify n)
    ⟨then_.pending.trans first.pending, then_.startup.trans first.startup, then_.dispatcher.trans first.dispatcher,
      then_.blocks ∘ first.blocks⟩
  unfold State.comeUp
  dsimp only
  split
  · exact started _
  · exact noticed _
  · exact noticed _

/-- R199: a hard reset, whatever its cause and the image, leaves the blocks at rest. -/
theorem hardReset (cause : ResetCause) (pins : ResetPins) (s : State) :
    RowKept s (State.afterReset cause pins s.image s.pending) :=
  ⟨rfl, fun _ =>
    have reset := reset_engineConsistent
    ⟨reset.units, reset.conditions, reset.timers, reset.events, reset.iface, nofun, nofun, nofun, fun _ => .inl rfl,
      fun _ => rfl⟩⟩

/-- R199: the end of the start-up read, which finds the dispatcher IDLE or at a request it has begun. -/
theorem startupRead {cause : ResetCause} (starting : s.startup = some cause) :
    RowKept s (State.comeUp (readyCause cause) { s.takeUp s.image.loaded with startup := none }) := by
  have up := comeUp_kept (readyCause cause) { s.takeUp s.image.loaded with startup := none }
  refine of_parts (up.pending.trans ?_) fun blocks stages => ?_
  · exact (takeUp_only s.image.loaded s).pending
  have hidden : s.startup ≠ none := by rw [starting]; exact nofun
  have taken := EngineStays.takeUp (stages.reloading (.inl hidden)) s.image.loaded
  have stage : (State.comeUp (readyCause cause) { s.takeUp s.image.loaded with startup := none }).link.dispatcher =
      s.link.dispatcher := up.dispatcher.trans taken.dispatcher
  refine ⟨up.blocks ((taken.blocks blocks).control none _), .of_started up.startup ?_ ?_⟩ <;> rw [stage]
  · rcases stages.startup hidden with e | e <;> rw [e] <;> exact nofun
  · rcases stages.startup hidden with e | e <;> rw [e] <;> exact nofun

/-- R198 step 4: at rest the counts can be cleared. -/
theorem clearRuntime_stays (stopped : s.engine = .stopped) : EngineStays s s.clearRuntime :=
  .writeSetup stopped rfl rfl rfl rfl fun h =>
    ⟨h.units, fun c => (congrArg ConditionState.phase (tab_get _ c)).trans (h.conditions c),
      fun k => (congrArg TimerState.phase (tab_get _ k)).trans (h.timers k), h.events, h.iface⟩

theorem trans {u : State} (h : RowKept s t) (g : RowKept t u) : RowKept s u :=
  ⟨g.pending.trans h.pending, g.engine ∘ h.engine⟩

/-- What is kept may depend on what the invariant says of the state before. -/
theorem of_consistent (pending : t.pending = s.pending) (h : BlocksConsistent s → StagesConsistent s → RowKept s t) :
    RowKept s t :=
  of_parts pending fun blocks stages =>
    (engineConsistent_iff t).1 ((h blocks stages).engine ((engineConsistent_iff s).2 ⟨blocks, stages⟩))

/-- R195, R196, R198: the dispatcher turns to a longer work, a reload while STOPPED alone. -/
theorem dispatcherTo {d : Dispatcher} (started : s.startup = none)
    (reload : d = .executing .restarting ∨ d = .waiting .loading → s.engine = .stopped) : RowKept s (s.dispatcherTo d) :=
  relink fun _ => ⟨fun starting => absurd started starting, fun reloads =>
    reload (reloads.resolve_left fun starting => starting started)⟩

/-- R198 steps 1 and 2: a restart that begins leaves the engine STOPPED. -/
theorem beginRestart (q : Request) (started : s.startup = none) : RowKept s (s.beginRestart q) := by
  have replied : RowKept s { s with link := s.link.placeReply (replyTo q (okay [])) } :=
    of_stays (.link (Link.placeReply_dispatcher _ _))
  unfold State.beginRestart
  dsimp only
  split
  · have halted := stopEngine_kept { s with link := s.link.placeReply (replyTo q (okay [])) }
    have ended := halted.startup.trans started
    have stopped : RowKept { s with link := s.link.placeReply (replyTo q (okay [])) } _ :=
      of_parts halted.pending fun blocks _ =>
        ⟨halted.blocks blocks, fun starting => absurd ended starting, fun _ => stopEngine_engine _⟩
    exact (replied.trans stopped).trans (dispatcherTo ended fun _ => stopEngine_engine _)
  · rename_i stopped
    exact replied.trans (dispatcherTo started fun _ => stopped)

/-- R198 steps 3 to 7: the run of a restart begins after the request is removed from the stages. -/
theorem endRestart (restarting : s.link.dispatcher = .executing .restarting) : RowKept s s.endRestart := by
  have up := comeUp_kept .restart (s.takeUp s.image.loaded).clearRuntime
  have pending : s.endRestart.pending = s.pending := up.pending.trans (takeUp_only s.image.loaded s).pending
  refine of_parts pending fun blocks stages => ?_
  have started : s.startup = none := stages.started (by rw [restarting]; exact nofun) (by rw [restarting]; exact nofun)
  have stopped := stages.reloading (.inr (.inl restarting))
  have taken := EngineStays.takeUp stopped s.image.loaded
  have cleared := clearRuntime_stays (taken.engine.trans stopped)
  have ended := up.startup.trans (cleared.startup.trans (taken.startup.trans started))
  exact ⟨(up.blocks (cleared.blocks (taken.blocks blocks))).link _, .requestDone ended⟩

theorem restart (q : Request) (started : s.startup = none) :
    RowKept s (if q.payload ≠ [] then s.answer (refusal .badLength)
      else if s.link.replies.length < Config.replyPlaces then s.beginRestart q else s) := by
  split
  · exact refused _ started
  · exact of_ite fun _ => beginRestart q started

theorem saveSetup (q : Request) (started : s.startup = none) :
    RowKept s (if q.payload ≠ [] then s.answer (refusal .badLength) else s.beginSave) := by
  split
  · exact refused _ started
  · have marked := EngineStays.image { s.image with state := .invalid } s
    exact (of_stays marked).trans (dispatcherTo started nofun)

theorem loadSetup (q : Request) (started : s.startup = none) :
    RowKept s (if q.payload ≠ [] then s.answer (refusal .badLength)
      else match s.engine with
        | .running => s.answer (refusal .state)
        | .stopped => s.dispatcherTo (.waiting .loading)) := by
  split
  · exact refused _ started
  · split
    · exact refused _ started
    · rename_i stopped
      exact dispatcherTo started fun _ => stopped

/-- R195 steps 4 and 5. -/
theorem endSave {copy : Setup} (saving : s.link.dispatcher = .waiting (.saving copy)) (verified : Bool) :
    RowKept s (s.endSave copy verified) := by
  have pending : (s.endSave copy verified).pending = s.pending := by
    unfold State.endSave
    dsimp only
    split <;> exact State.answer_pending _ _
  refine of_consistent pending fun _ stages => ?_
  have started := stages.started (by rw [saving]; exact nofun) (by rw [saving]; exact nofun)
  unfold State.endSave
  dsimp only
  split
  · exact answered (.of_stays (.image ⟨.valid, nextFromOne s.image.generation, copy⟩ s)) started (fun h => h.stands rfl rfl rfl) _
  · exact refused _ started

/-- R196: the end of a load, which finds the engine STOPPED. -/
theorem endLoad (loading : s.link.dispatcher = .waiting .loading) : RowKept s s.endLoad := by
  have pending : s.endLoad.pending = s.pending := by
    unfold State.endLoad
    split
    · exact (State.answer_pending _ _).trans (takeUp_only _ s).pending
    all_goals exact State.answer_pending _ s
  refine of_consistent pending fun _ stages => ?_
  have started := stages.started (by rw [loading]; exact nofun) (by rw [loading]; exact nofun)
  have taken := EngineStays.takeUp (stages.reloading (.inr (.inr loading))) s.image.contents
  unfold State.endLoad
  split
  · exact answered taken.toBlocksKept started (fun h => h.stands taken.startup taken.dispatcher taken.engine) _
  all_goals exact refused _ started

/-- R180: a reply that was held is placed after start-up. -/
theorem placeHeld {r : Reply} (held : s.link.dispatcher = .executing (.holding r)) :
    RowKept s { s with link := s.link.settle r } :=
  relink fun stages => .settled (stages.started (by rw [held]; exact nofun) (by rw [held]; exact nofun)) r

/-- R177, R199: a row that serves requests does so after start-up. -/
theorem onRequest {is : Byte → Bool} {f : Request → State → State}
    (effect : ∀ q, s.startup = none → RowKept s (f q s)) : RowKept s (s.onRequest is f) :=
  onRequest_keeps (P := RowKept s) (fun q current => effect q (started_of_current current).1) (refl s)

/-- Every command leaves the commands that wait, and keeps the engine consistent. -/
theorem of_exec (c : Instr) (e : exec c s = .next t) : RowKept s t := by
  cases c
  case hardReset cause pins => exact next_keeps (hardReset cause pins s) e
  case startupSetupRead =>
    refine next_keeps (P := RowKept s) ?_ e
    split
    · exact startupRead (by assumption)
    · exact refl s
  case messageReceived bytes => exact next_keeps (receive bytes s) e
  case receiveTimeout periods => exact next_keeps (P := RowKept s) (of_stays (.link (Link.silence_dispatcher periods s.link))) e
  case stopBitError byte =>
    refine next_keeps (P := RowKept s) ?_ e
    split
    · exact refl s
    · exact receive [byte] s
  case unknownKind => exact next_keeps (P := RowKept s) (onRequest fun _ started => refused _ started) e
  case replyPlaced =>
    refine next_keeps (P := RowKept s) ?_ e
    split
    · exact placeHeld (by assumption)
    all_goals exact refl s
  case transmitComplete => exact next_keeps (P := RowKept s) (of_stays (.link (Link.sent_dispatcher s.link))) e
  case identify => exact next_keeps (serve_report _ identifyRequest_state s) e
  case status => exact next_keeps (serve _ BlocksKept.statusRequest s) e
  case run => exact next_keeps (serve _ BlocksKept.runRequest s) e
  case stop => exact next_keeps (serve _ BlocksKept.stopRequest s) e
  case restart => exact next_keeps (P := RowKept s) (onRequest restart) e
  case restartSetupRead => exact next_keeps (P := RowKept s) (of_ite endRestart) e
  case saveSetup => exact next_keeps (P := RowKept s) (onRequest saveSetup) e
  case saveComplete verified =>
    refine next_keeps (P := RowKept s) ?_ e
    split
    · exact endSave (by assumption) verified
    all_goals exact refl s
  case loadSetup => exact next_keeps (P := RowKept s) (onRequest loadSetup) e
  case loadComplete =>
    refine next_keeps (P := RowKept s) ?_ e
    split
    · exact endLoad (by assumption)
    all_goals exact refl s
  case defaultSetup => exact next_keeps (serve _ BlocksKept.defaultRequest s) e
  case setAutorun => exact next_keeps (serve _ BlocksKept.autorunRequest s) e
  case setPort => exact next_keeps (serve _ BlocksKept.setPort s) e
  case getPort => exact next_keeps (serve_report _ getPort_state s) e
  case setMeasure => exact next_keeps (serve _ BlocksKept.setMeasure s) e
  case getMeasure => exact next_keeps (serve_report _ getMeasure_state s) e
  case setCondition => exact next_keeps (serve _ BlocksKept.setCondition s) e
  case getCondition => exact next_keeps (serve_report _ getCondition_state s) e
  case armCondition => exact next_keeps (serve _ (BlocksKept.conditionRequest condArm) s) e
  case disarmCondition => exact next_keeps (serve _ (BlocksKept.conditionRequest condDisarm) s) e
  case unlatchCondition => exact next_keeps (serve _ (BlocksKept.conditionRequest condUnlatch) s) e
  case setTimer => exact next_keeps (serve _ BlocksKept.setTimer s) e
  case getTimer => exact next_keeps (serve_report _ getTimer_state s) e
  case startTimer => exact next_keeps (serve _ (BlocksKept.timerRequest timerStart) s) e
  case stopTimer => exact next_keeps (serve _ (BlocksKept.timerRequest timerStop) s) e
  case resumeTimer => exact next_keeps (serve _ (BlocksKept.timerRequest timerResume) s) e
  case setBinding => exact next_keeps (serve _ BlocksKept.setBinding s) e
  case getBinding => exact next_keeps (serve_report _ getBinding_state s) e
  case fire => exact next_keeps (serve _ BlocksKept.fire s) e
  case setLine => exact next_keeps (serve _ BlocksKept.setLine s) e
  case getLines => exact next_keeps (serve_report _ getLines_state s) e
  case driveLine => exact next_keeps (serve _ BlocksKept.driveLine s) e
  case setUnit => exact next_keeps (serve _ BlocksKept.setUnit s) e
  case getUnit => exact next_keeps (serve_report _ getUnit_state s) e
  case armUnit => exact next_keeps (serve _ (BlocksKept.unitRequest BlocksKept.armRequest) s) e
  case triggerUnit => exact next_keeps (serve _ (BlocksKept.unitRequest BlocksKept.triggerRequest) s) e
  case abortUnit => exact next_keeps (serve _ (BlocksKept.unitRequest BlocksKept.abortRequest) s) e
  case listCaptures => exact next_keeps (serve_report _ listCaptures_state s) e
  case getCapture => exact next_keeps (serve_report _ getCapture_state s) e
  case readFrames => exact next_keeps (serve_report _ readFrames_state s) e
  case holdCapture => exact next_keeps (serve _ BlocksKept.holdCapture s) e
  case releaseCapture => exact next_keeps (serve _ BlocksKept.releaseCapture s) e
  case setStore => exact next_keeps (serve _ BlocksKept.setStore s) e
  case getStore => exact next_keeps (serve_report _ getStore_state s) e
  case firstSyncEdge edges => exact next_keeps (P := RowKept s) (of_ite fun _ => of_stays (.clockAll edges s)) e
  case frameBoundary edges => exact next_keeps (P := RowKept s) (of_ite fun _ => of_stays (.clockAll edges s)) e
  case timerExpire timer edges => exact next_keeps (P := RowKept s) (of_ite fun _ => of_stays (.clockAll edges s)) e
  case syncLost periods => exact next_keeps (of_stays (.quiet periods s)) e
  case syncRegained edges => exact next_keeps (P := RowKept s) (of_ite fun _ => of_stays (.clockAll edges s)) e
  case take during =>
    change execTake during s = .next t at e
    unfold execTake at e
    split at e <;> cases e
    · rename_i running _
      exact of_stays (RunGoesOn.workFrame _ during s running)
    · exact refl s
    · exact refl s
  case inputAccepted input periods => exact next_keeps (of_stays (.holdPin input periods s)) e
  case inputPinChange input level => exact next_keeps (of_stays (.samplePin input level s)) e

end RowKept

/-- Settles O8: only a run that starts, a stop, a reload and a hard reset move the engine or the stages of the dispatcher; every other row leaves both, and the blocks at rest while STOPPED. -/
theorem stepKeepsEngineConsistent : Obligations.StepKeepsEngineConsistent := fun _ _ =>
  step_keeps (P := EngineConsistent) (fun _ h => { h with }) fun c _ h e => (RowKept.of_exec c e).engine h

/-- Every command has a next state. -/
theorem exec_next (c : Instr) (s : State) : ∃ t : State, exec c s = .next t := by
  cases c
  case take during =>
    change ∃ t : State, execTake during s = .next t
    unfold execTake
    split <;> exact ⟨_, rfl⟩
  all_goals exact ⟨_, rfl⟩

/-- Settles O2: no row faults or refuses, and none reaches the queue of commands. -/
theorem everyCommandHasANextState : Obligations.EveryCommandHasANextState := fun c s =>
  have ⟨t, e⟩ := exec_next c s
  ⟨t, e, (RowKept.of_exec c e).pending⟩

end Sys2Proof.Machine

namespace Sys2Proof.Machine

/-! ### The RUN checks (R190, R38, R145) -/

theorem find?_finRange_eq_some_iff {n : Nat} {p : Fin n → Bool} {i : Fin n} :
    (List.finRange n).find? p = some i ↔ p i = true ∧ ∀ j, j < i → ¬ p j = true := by
  rw [← Fin.find?_eq_find?_finRange, Fin.find?_eq_some_iff]
  simp

theorem find?_finRange_eq_none_iff {n : Nat} {p : Fin n → Bool} :
    (List.finRange n).find? p = none ↔ ∀ i, ¬ p i = true := by
  simp [List.find?_eq_none]

/-- R38: the kinds that read two lanes are DIFF and MEANPROD. -/
theorem measureFails_iff (u : Setup) (m : Fin 16) :
    measureFails u m = true ↔ u.measures[m].enabled = true ∧
      (u.present u.measures[m].laneA = false
        ∨ (u.measures[m].kind = .diff ∨ u.measures[m].kind = .meanprod) ∧ u.present u.measures[m].laneB = false) := by
  unfold measureFails checkedLanes
  cases u.measures[m].kind <;> simp

theorem unitFails_iff (u : Setup) (k : Fin 4) :
    unitFails u k = true ↔ ∃ l : Fin 16, u.units[k].mask.getLsbD l.val = true ∧ u.present l = false := by
  rw [← mask_names_absent_iff, unitFails, Bool.not_eq_true', Bool.not_eq_true]

/-- R190: the checks in their order. -/
theorem runChecks_cases (u : Setup) :
    (u.portA.enabled = false ∧ runChecks u = some .saDisabled)
    ∨ (∃ m, u.portA.enabled = true ∧ (List.finRange 16).find? (measureFails u) = some m ∧ runChecks u = some (.measure m))
    ∨ (∃ k, u.portA.enabled = true ∧ (List.finRange 16).find? (measureFails u) = none
        ∧ (List.finRange 4).find? (unitFails u) = some k ∧ runChecks u = some (.unit k))
    ∨ (u.portA.enabled = true ∧ (List.finRange 16).find? (measureFails u) = none
        ∧ (List.finRange 4).find? (unitFails u) = none ∧ runChecks u = none) := by
  unfold runChecks
  cases u.portA.enabled with
  | false => exact .inl ⟨rfl, rfl⟩
  | true =>
    cases (List.finRange 16).find? (measureFails u) with
    | some m => exact .inr (.inl ⟨m, rfl, rfl, rfl⟩)
    | none =>
      cases (List.finRange 4).find? (unitFails u) with
      | some k => exact .inr (.inr (.inl ⟨k, rfl, rfl, rfl, rfl⟩))
      | none => exact .inr (.inr (.inr ⟨rfl, rfl, rfl, rfl⟩))

theorem runChecks_eq_saDisabled_iff (u : Setup) : runChecks u = some .saDisabled ↔ u.portA.enabled = false := by
  rcases runChecks_cases u with ⟨sa, e⟩ | ⟨m, sa, -, e⟩ | ⟨k, sa, -, -, e⟩ | ⟨sa, -, -, e⟩ <;> simp [e, sa]

theorem runChecks_eq_measure_iff (u : Setup) (m : Fin 16) :
    runChecks u = some (.measure m) ↔
      u.portA.enabled = true ∧ (List.finRange 16).find? (measureFails u) = some m := by
  rcases runChecks_cases u with ⟨sa, e⟩ | ⟨j, sa, first, e⟩ | ⟨k, sa, sound, -, e⟩ | ⟨sa, sound, -, e⟩
  · simp [e, sa]
  · simp [e, sa, first]
  · simp only [e, sa, sound]; simp
  · simp only [e, sa, sound]; simp

theorem runChecks_eq_unit_iff (u : Setup) (k : Fin 4) :
    runChecks u = some (.unit k) ↔
      u.portA.enabled = true ∧ (List.finRange 16).find? (measureFails u) = none
        ∧ (List.finRange 4).find? (unitFails u) = some k := by
  rcases runChecks_cases u with ⟨sa, e⟩ | ⟨m, sa, first, e⟩ | ⟨j, sa, sound, first, e⟩ | ⟨sa, sound, whole, e⟩
  · simp [e, sa]
  · simp only [e, first]; simp
  · simp only [e, sa, sound, first]; simp
  · simp only [e, sa, sound, whole]; simp

theorem runChecks_eq_none_iff (u : Setup) :
    runChecks u = none ↔
      u.portA.enabled = true ∧ (List.finRange 16).find? (measureFails u) = none
        ∧ (List.finRange 4).find? (unitFails u) = none := by
  rcases runChecks_cases u with ⟨sa, e⟩ | ⟨m, sa, first, e⟩ | ⟨j, sa, sound, first, e⟩ | ⟨sa, sound, whole, e⟩
  · simp [e, sa]
  · simp only [e, first]; simp
  · simp only [e, first]; simp
  · simp only [e, sa, sound, whole]; simp

/-- Settles O25: each outcome of the checks, in their order. -/
theorem runChecksNameTheFirstFailure : Obligations.RunChecksNameTheFirstFailure := by
  intro u badMeasure badUnit measures units
  have measure : ∀ m, badMeasure m ↔ measureFails u m = true := fun m => (measures m).trans (measureFails_iff u m).symm
  have unit : ∀ k, badUnit k ↔ unitFails u k = true := fun k => (units k).trans (unitFails_iff u k).symm
  simp only [measure, unit, ← find?_finRange_eq_none_iff, ← find?_finRange_eq_some_iff]
  exact ⟨runChecks_eq_saDisabled_iff u, runChecks_eq_measure_iff u, runChecks_eq_unit_iff u, runChecks_eq_none_iff u⟩

end Sys2Proof.Machine

namespace Sys2Proof.Machine

/-! ### Saves, loads and setups as a whole (R195 to R197) -/

/-- R158, R191, R195: the count that skips 0 returns to 1 after its largest value. -/
theorem nextFromOne_eq {w : Nat} {last : BitVec w} (top : last = BitVec.allOnes w) (c : BitVec w) :
    nextFromOne c = if c = last then 1#w else c + 1#w := by rw [top]; rfl

theorem exec_saveSetup {s : State} (h : Serves s 0x06 []) : exec .saveSetup s = .next s.beginSave := by
  obtain ⟨tag, carriedOut⟩ := onRequest_serves _ h
  exact congrArg Host.Outcome.next carriedOut

theorem exec_saveComplete {s : State} {copy : Setup} (saving : s.link.dispatcher = .waiting (.saving copy))
    (verified : Bool) : exec (.saveComplete verified) s = .next (s.endSave copy verified) := by
  change execSaveComplete verified s = _
  unfold execSaveComplete
  rw [saving]

theorem exec_loadSetup_stopped {s : State} (stopped : s.engine = .stopped) (h : Serves s 0x07 []) :
    exec .loadSetup s = .next (s.dispatcherTo (.waiting .loading)) := by
  obtain ⟨tag, carriedOut⟩ := onRequest_serves _ h
  refine congrArg Host.Outcome.next (carriedOut.trans ?_)
  simp only [ne_eq, not_true_eq_false, if_false, stopped]

theorem exec_loadComplete {s : State} (loading : s.link.dispatcher = .waiting .loading) :
    exec .loadComplete s = .next s.endLoad := by
  change execLoadComplete s = _
  unfold execLoadComplete
  rw [loading]

theorem endLoad_valid {s : State} (valid : s.image.state = .valid) :
    s.endLoad = (s.takeUp s.image.contents).answer (okay (leBytes 4 s.image.generation.toNat)) := by
  unfold State.endLoad
  rw [valid]

theorem endLoad_notValid {s : State} (h : s.image.state ≠ .valid) : s.endLoad = s.answer (refusal .storeFailed) := by
  unfold State.endLoad
  cases e : s.image.state with
  | valid => exact absurd e h
  | neverWritten => rfl
  | invalid => rfl

/-- R197: DEFAULT_SETUP while STOPPED. -/
theorem defaultRequest_stopped {s : State} (stopped : s.engine = .stopped) :
    defaultRequest [] s = (s.takeUp defaultSetup, okay []) := by
  simp only [defaultRequest, stopped]

theorem autorunRequest_yesNo (b : Bool) (s : State) :
    autorunRequest [yesNo b] s = ({ s with setup := { s.setup with autoRun := b } }, okay [yesNo b]) := by
  simp only [autorunRequest, readYesNo_yesNo]

/-- Settles O24: each row by its own equation, and the new setup taken up by `takenUp`. -/
theorem saveLoadDefaultAndAutorun : Obligations.SaveLoadDefaultAndAutorun := by
  refine ⟨⟨fun s h => exec_saveSetup h, fun s copy saving _ => ⟨exec_saveComplete saving false, ?_⟩⟩,
    fun s stopped => ⟨exec_loadSetup_stopped stopped, fun loading valid => ?_, fun loading notValid => ?_, fun h => ?_⟩,
    fun s b h => serve_answers h (autorunRequest_yesNo b s)⟩
  · rw [← nextFromOne_eq (by decide)]
    exact exec_saveComplete saving true
  · exact ⟨_, takenUp stopped _, by rw [exec_loadComplete loading, endLoad_valid valid]⟩
  · rw [exec_loadComplete loading, endLoad_notValid notValid]
    rfl
  · exact ⟨_, takenUp stopped _, serve_answers h (defaultRequest_stopped stopped)⟩

end Sys2Proof.Machine

namespace Sys2Proof.Machine

/-! ### RUN (R190, R191) -/

theorem startRun_condition (s : State) (c : Fin 32) :
    s.startRun.conditions[c] =
      { phase := if s.setup.conditions[c].armAtRun then .watching else .disarmed, runCount := 0, assertions := 0 } := by
  rw [startRun_conditions]
  exact tab_get _ c

theorem startRun_measure (s : State) (m : Fin 16) : s.startRun.measures[m] = clearedMeasure := by
  rw [startRun_measures]
  exact tab_get _ m

theorem startRun_timer (s : State) (k : Fin 4) :
    s.startRun.timers[k] =
      if s.setup.timers[k].startAtRun then
        { phase := .running
          count := match s.setup.timers[k].direction with | .down => s.setup.timers[k].period | .up => 0
          expiries := 0 }
      else { phase := .idle, count := 0, expiries := 0 } := by
  rw [startRun_timers]
  exact tab_get _ k

/-- R9: the interface of a run that starts. -/
structure InterfaceEntered (u : Setup) (i : FrameInterface) : Prop where
  state       : i.state = match u.interface.source with | .follower => .seeking | .provider => .receiving
  frameNumber : i.frameNumber = 0
  shiftA      : i.shiftA = []
  shiftB      : i.shiftB = []
  holding     : i.holding = none
  shortFrames : i.shortFrames = 0
  overruns    : i.overruns = 0
  syncLosses  : i.syncLosses = 0

theorem startRun_interfaceEntered (s : State) : InterfaceEntered s.setup s.startRun.iface := by
  obtain ⟨due, phase, e⟩ := enteredInterface_eq s.setup (preparedInterface s.iface)
  rw [startRun_iface, e]
  exact ⟨rfl, rfl, rfl, rfl, rfl, rfl, rfl, rfl⟩

/-- R85, R153: the only event that the start of a run places is STORE_LOW. -/
theorem startRun_events (s : State) {e : EventId} (he : e ∈ s.startRun.events) : e.val = 83 := by
  rcases (RingsClaimed.startRun s).events e he with none | low
  · nomatch none
  · rw [low]; rfl

theorem runPrepared_of_noArm {s : State} {k : Fin 4} (h : s.setup.units[k].armAtRun = false) :
    s.runPrepared (k.val + 1) = s.runPrepared k.val := by
  have setup : (s.runPrepared k.val).setup = s.setup := (runPrepared_only s k.val).setup
  rw [runPrepared_succ, State.armAtRun, setup, h, if_neg Bool.false_ne_true]

/-- R146, R123: a unit with arm-at-run is armed or reported at its turn. -/
theorem runPrepared_of_arm {s : State} {k : Fin 4} (h : s.setup.units[k].armAtRun = true) :
    ArmedOrReported k .armAtRun 0 (s.runPrepared k.val) (s.runPrepared (k.val + 1)) := by
  have setup : (s.runPrepared k.val).setup = s.setup := (runPrepared_only s k.val).setup
  rw [runPrepared_succ, State.armAtRun, setup, h, if_pos rfl]
  exact armUnitBy_armedOrReported k .armAtRun 0 _

theorem startRun_runPrepared (s : State) : s.startRun = { s.runPrepared 4 with iface := s.startRun.iface } := by
  rw [startRun_iface, startRun_eq]

/-- R191: what a run is prepared with, as the run that starts has it. -/
theorem runPrepared_zero (s : State) :
    s.runPrepared 0 =
      { s with
        engine := s.startRun.engine, runNumber := s.startRun.runNumber, iface := (s.runPrepared 0).iface, lastTaken := none
        measures := s.startRun.measures, conditions := s.startRun.conditions, timers := s.startRun.timers, events := [] } := by
  rw [startRun_engine, startRun_runNumber, startRun_measures, startRun_conditions, startRun_timers]
  rfl

theorem runRequest_starts {s : State} (stopped : s.engine = .stopped) (passed : runChecks s.setup = none) :
    runRequest [] s = (s.startRun, okay (leBytes 2 s.startRun.runNumber.toNat)) := by
  simp only [runRequest, stopped, passed]

theorem runRequest_running {s : State} (running : s.engine = .running) : runRequest [] s = (s, refusal .state) := by
  simp only [runRequest, running]

theorem runRequest_conflict {s : State} {c : Conflict} (stopped : s.engine = .stopped) (failed : runChecks s.setup = some c) :
    runRequest [] s = (s, { status := .setupConflict, data := c.bytes }) := by
  simp only [runRequest, stopped, failed]

/-- Settles O26: the run that starts block by block, its units on the states `runPrepared 0` to `runPrepared 4`. -/
theorem runStartsEveryBlockOrChangesNothing : Obligations.RunStartsEveryBlockOrChangesNothing := by
  refine ⟨fun s serves stopped passed => ?_, fun s serves => ⟨fun running => ?_, fun c stopped failed => ?_⟩⟩
  · have iface := startRun_interfaceEntered s
    have claimed := RingsClaimed.startRun s
    have control := startRun_controlStands s
    refine ⟨s.startRun, serve_answers serves (runRequest_starts stopped passed), startRun_engine s, ?_, startRun_setup s,
      startRun_image s, startRun_startup s, startRun_actionLevels s, startRun_inputs s, claimed.index, claimed.nextId,
      claimed.mem, control.replies, control.requests, iface.state, iface.frameNumber, iface.shiftA, iface.shiftB,
      iface.holding, iface.shortFrames, iface.overruns, iface.syncLosses, fun m => ?_, startRun_condition s,
      startRun_timer s, fun e => startRun_events s, s.runPrepared, runPrepared_zero s, fun k => runPrepared_of_noArm,
      fun k => runPrepared_of_arm, startRun_runPrepared s⟩
    · rw [startRun_runNumber]
      exact nextFromOne_eq (by decide) _
    · rw [startRun_measure]
      exact ⟨rfl, rfl, rfl, rfl, rfl, rfl⟩
  · exact serve_answers serves (runRequest_running running)
  · exact serve_answers serves (runRequest_conflict stopped failed)

end Sys2Proof.Machine

namespace Sys2Proof.Machine

/-! ### STOP (R192, R147) -/

/-- R147: a stop writes no word of the capture store. -/
theorem stopUnit_mem (k : Fin 4) (s : State) : (s.stopUnit k).store.mem = s.store.mem := by
  unfold State.stopUnit
  split
  · rfl
  · rfl
  · rfl
  · exact closeCapture_mem k _

theorem stopEngine_mem (s : State) : s.stopEngine.store.mem = s.store.mem :=
  List.foldlRecOn (motive := fun t : State => t.store.mem = s.store.mem) (List.finRange 4)
    (fun a k => a.stopUnit k) rfl fun a same k _ => (stopUnit_mem k a).trans same

theorem stopEngine_measure (s : State) (m : Fin 16) : s.stopEngine.measures[m] = { s.measures[m] with fresh := false } := by
  rw [stopEngine_measures]
  exact tab_get _ m

theorem stopEngine_condition (s : State) (c : Fin 32) :
    s.stopEngine.conditions[c] = { phase := .disarmed, runCount := 0, assertions := s.conditions[c].assertions } := by
  rw [stopEngine_conditions]
  exact tab_get _ c

theorem stopEngine_timer (s : State) (k : Fin 4) : s.stopEngine.timers[k] = { s.timers[k] with phase := .idle } := by
  rw [stopEngine_timers]
  exact tab_get _ k

/-- R192: the blocks but for the units, as they are when the stop is over. -/
theorem unitsStopped_zero (s : State) :
    s.unitsStopped 0 =
      { s with
        engine := .stopped, iface := s.stopEngine.iface, measures := s.stopEngine.measures
        conditions := s.stopEngine.conditions, timers := s.stopEngine.timers, events := [] } := by
  rw [stopEngine_iface, stopEngine_measures, stopEngine_conditions, stopEngine_timers]
  rfl

theorem unitsStopped_of_idle {s : State} {k : Fin 4} (idle : s.units[k].phase = .idle) :
    s.unitsStopped (k.val + 1) = s.unitsStopped k.val := by
  rw [unitsStopped_succ, State.stopUnit, unitsStopped_before, idle]

/-- R147: a unit in FILLING or ARMED gives its pages back. -/
theorem unitsStopped_of_waiting {s : State} {k : Fin 4} (waiting : s.units[k].phase = .filling ∨ s.units[k].phase = .armed) :
    s.unitsStopped (k.val + 1) = (s.unitsStopped k.val).giveUp k := by
  rw [unitsStopped_succ, State.stopUnit, unitsStopped_before]
  rcases waiting with e | e <;> rw [e]

/-- R147, R169: a unit in POST closes with STOPPED. -/
theorem unitsStopped_of_post {s : State} {k : Fin 4} (post : s.units[k].phase = .post) :
    s.unitsStopped (k.val + 1) = State.closeCapture k
      { s.unitsStopped k.val with
        units := put (s.unitsStopped k.val).units k
          { s.units[k] with flags := { s.units[k].flags with stopped := true } } } := by
  rw [unitsStopped_succ, State.stopUnit, unitsStopped_before, post]
  dsimp only
  rw [State.flagUnit, State.setUnitState, unitsStopped_before]

theorem stopRequest_stopped {s : State} (stopped : s.engine = .stopped) :
    stopRequest [] s = (s, okay (leBytes 5 s.iface.frameNumber.toNat)) := by
  simp only [stopRequest, stopped]

/-- R192: the reply carries the frame number, which a stop leaves. -/
theorem stopRequest_running {s : State} (running : s.engine = .running) :
    stopRequest [] s = (s.stopEngine, okay (leBytes 5 s.iface.frameNumber.toNat)) := by
  have same : s.stopEngine.iface.frameNumber = s.iface.frameNumber := by rw [stopEngine_iface]; rfl
  simp only [stopRequest, running, same]

/-- Settles O27: the stop block by block, its units on the states `unitsStopped 0` to `unitsStopped 4`. -/
theorem stopEndsTheRun : Obligations.StopEndsTheRun := by
  intro s serves
  refine ⟨fun stopped => serve_answers serves (stopRequest_stopped stopped), fun running => ?_⟩
  have only := stopEngine_only s
  have control := stopEngine_controlStands s
  refine ⟨s.stopEngine, serve_answers serves (stopRequest_running running), stopEngine_engine s, only.runNumber, only.setup,
    only.image, stopEngine_events s, only.actionLevels, only.inputs, stopEngine_mem s, stopEngine_iface s,
    stopEngine_measure s, stopEngine_condition s, stopEngine_timer s, stopEngine_units s, control.requests,
    control.replies, s.unitsStopped, unitsStopped_zero s, unitsStopped_before s, fun k => unitsStopped_of_idle,
    fun k waiting free hfree => ?_, fun k => unitsStopped_of_post, stopEngine_eq s⟩
  have setup : (s.unitsStopped k.val).setup = s.setup := (unitsStopped_only s k.val).setup
  rw [unitsStopped_of_waiting waiting, giveUp_eq, unitsStopped_before, hfree, List.length_append, ← setup]

end Sys2Proof.Machine

namespace Sys2Proof.Machine

/-! ### What follows the reading of the image (R198 steps 5 to 7, R199) -/

theorem loaded_eq (i : SetupImage) : i.loaded = if i.state = .valid then i.contents else defaultSetup := by
  unfold SetupImage.loaded
  split
  · rename_i valid
    rw [if_pos valid]
  · rename_i blank
    rw [if_neg (by rw [blank]; decide)]
  · rename_i invalid
    rw [if_neg (by rw [invalid]; decide)]

theorem autoOutcome_eq_started_iff (u : Setup) : autoOutcome u = .started ↔ u.autoRun = true ∧ runChecks u = none := by
  unfold autoOutcome
  cases u.autoRun <;> cases runChecks u <;> simp

/-- R199: READY is offered, with the number of the run that the checks allow. -/
def State.readied (cause : ReadyCause) (s : State) : State :=
  s.notify (.ready cause s.image.source s.image.generation (autoOutcome s.setup)
    (readyRun (autoOutcome s.setup) s.runNumber))

theorem comeUp_of_started {s : State} (h : autoOutcome s.setup = .started) (cause : ReadyCause) :
    s.comeUp cause = (s.readied cause).startRun := by
  rw [State.comeUp, State.readied, h]

theorem comeUp_of_not_started {s : State} (h : autoOutcome s.setup ≠ .started) (cause : ReadyCause) :
    s.comeUp cause = s.readied cause := by
  rw [State.comeUp, State.readied]
  cases e : autoOutcome s.setup with
  | off => rfl
  | started => exact absurd e h
  | refused _ => rfl

/-- From `s` to `t` what neither READY nor the start of a run touches stands. -/
structure ComeUpStands (s t : State) : Prop extends ControlStands s t where
  startup      : t.startup = s.startup
  actionLevels : t.actionLevels = s.actionLevels
  index        : t.store.index = s.store.index
  nextId       : t.store.nextId = s.store.nextId
  mem          : t.store.mem = s.store.mem

theorem comeUp_stands (cause : ReadyCause) (s : State) : ComeUpStands s (s.comeUp cause) := by
  have control := comeUp_controlStands cause s
  by_cases h : autoOutcome s.setup = .started
  · rw [comeUp_of_started h] at control ⊢
    have claimed := RingsClaimed.startRun (s.readied cause)
    exact ⟨control, startRun_startup _, startRun_actionLevels _, claimed.index, claimed.nextId, claimed.mem⟩
  · rw [comeUp_of_not_started h] at control ⊢
    exact ⟨control, rfl, rfl, rfl, rfl, rfl⟩

/-- R198 step 5, R199 step 3: the run starts exactly when auto-run is on and the checks pass. -/
theorem comeUp_engine {s : State} (stopped : s.engine = .stopped) (cause : ReadyCause) :
    (s.comeUp cause).engine = if s.setup.autoRun = true ∧ runChecks s.setup = none then .running else .stopped := by
  by_cases h : autoOutcome s.setup = .started
  · rw [comeUp_of_started h, startRun_engine, if_pos ((autoOutcome_eq_started_iff _).1 h)]
  · rw [comeUp_of_not_started h, if_neg (mt (autoOutcome_eq_started_iff _).2 h)]
    exact stopped

/-- R199: READY carries the number that the run has when it starts. -/
theorem comeUp_runNumber (cause : ReadyCause) (s : State) :
    (s.comeUp cause).runNumber = readyRun (autoOutcome s.setup) s.runNumber := by
  by_cases h : autoOutcome s.setup = .started
  · rw [comeUp_of_started h, startRun_runNumber, h]
    rfl
  · rw [comeUp_of_not_started h]
    cases e : autoOutcome s.setup with
    | off => rfl
    | started => exact absurd e h
    | refused _ => rfl

theorem comeUp_runNumber_running {s : State} {cause : ReadyCause} (stopped : s.engine = .stopped)
    (running : (s.comeUp cause).engine = .running) : (s.comeUp cause).runNumber = nextFromOne s.runNumber := by
  have started : autoOutcome s.setup = .started := by
    by_contra h
    rw [comeUp_of_not_started h] at running
    exact nomatch stopped.symm.trans running
  rw [comeUp_runNumber, started]
  rfl

theorem readied_notices {s : State} (room : s.link.notices.length < 16) (cause : ReadyCause) :
    (s.readied cause).link.notices = s.link.notices ++
      [.ready cause s.image.source s.image.generation (autoOutcome s.setup) (s.comeUp cause).runNumber] := by
  rw [comeUp_runNumber]
  exact (Link.offerNotice_notices _ s.link).trans (if_pos room)

/-- R199, R146: READY comes first, and what the start of the run reports comes after it. -/
theorem comeUp_notices {s : State} (room : s.link.notices.length < 16) (cause : ReadyCause) :
    ∃ more, ((s.comeUp cause).engine = .stopped → (s.comeUp cause).runNumber = s.runNumber ∧ more = [])
      ∧ (s.comeUp cause).link.notices = s.link.notices ++
          .ready cause s.image.source s.image.generation (autoOutcome s.setup) (s.comeUp cause).runNumber :: more := by
  have ready := readied_notices room cause
  by_cases h : autoOutcome s.setup = .started
  · obtain ⟨more, grown⟩ := startRun_noticesGrow (s.readied cause)
    rw [← comeUp_of_started h, ready, List.append_assoc] at grown
    refine ⟨more, fun stopped => ?_, grown⟩
    rw [comeUp_of_started h, startRun_engine] at stopped
    exact nomatch stopped
  · refine ⟨[], fun _ => ⟨by rw [comeUp_of_not_started h]; rfl, rfl⟩, ?_⟩
    rw [← ready, comeUp_of_not_started h]

/-- From `s` to `t` the image has been read and its setup taken up while STOPPED; READY is still to come. -/
structure Reloaded (s t : State) : Prop where
  setup     : t.setup = s.image.loaded
  image     : t.image = s.image
  link      : t.link = s.link
  runNumber : t.runNumber = s.runNumber
  engine    : t.engine = .stopped
  index     : t.store.index = s.store.index
  nextId    : t.store.nextId = s.store.nextId
  mem       : t.store.mem = s.store.mem

theorem takeUp_reloaded {s : State} (stopped : s.engine = .stopped) : Reloaded s (s.takeUp s.image.loaded) :=
  have only := takeUp_only s.image.loaded s
  ⟨only.setup, only.image, only.link, only.runNumber, only.engine.trans stopped, by rw [only.store]; rfl,
    by rw [only.store]; rfl, by rw [only.store]; rfl⟩

/-- What `comeUp` leaves of the state `s` before the reading of the image, `more` being the notices after READY. -/
structure BroughtUp (cause : ReadyCause) (s : State) (more : List Notice) (t : State) : Prop where
  setup      : t.setup = s.image.loaded
  image      : t.image = s.image
  index      : t.store.index = s.store.index
  nextId     : t.store.nextId = s.store.nextId
  mem        : t.store.mem = s.store.mem
  requests   : t.link.requests = s.link.requests
  replies    : t.link.replies = s.link.replies
  engine     : t.engine = if s.image.loaded.autoRun = true ∧ runChecks s.image.loaded = none then .running else .stopped
  running    : t.engine = .running → t.runNumber = nextFromOne s.runNumber
  stopped    : t.engine = .stopped → t.runNumber = s.runNumber ∧ more = []
  notices    : t.link.notices = s.link.notices ++
    .ready cause s.image.source s.image.generation (autoOutcome s.image.loaded) t.runNumber :: more

theorem Reloaded.broughtUp {s t : State} (h : Reloaded s t) (room : s.link.notices.length < 16) (cause : ReadyCause) :
    ∃ more, BroughtUp cause s more (t.comeUp cause) := by
  obtain ⟨setup, image, link, runNumber, engine, index, nextId, mem⟩ := h
  obtain ⟨more, stopped, notices⟩ := comeUp_notices (link ▸ room) cause
  have stands := comeUp_stands cause t
  refine ⟨more, ?_, stands.image.trans image, stands.index.trans index, stands.nextId.trans nextId, stands.mem.trans mem, ?_,
    ?_, ?_, fun running => ?_, runNumber ▸ stopped, ?_⟩
  · exact stands.setup.trans setup
  · rw [stands.requests, link]
  · rw [stands.replies, link]
  · rw [comeUp_engine engine, setup]
  · rw [comeUp_runNumber_running engine running, runNumber]
  · rw [notices, link, image, setup]

/-! ### Start-up (R199) -/

theorem exec_startupSetupRead {s : State} {cause : ResetCause} (starting : s.startup = some cause) :
    exec .startupSetupRead s = .next (State.comeUp (readyCause cause) { s.takeUp s.image.loaded with startup := none }) := by
  change execStartupSetupRead s = _
  unfold execStartupSetupRead
  rw [starting]

/-- Settles O22: the setup taken up, then `comeUp`. -/
theorem startupReadBringsThePartUp : Obligations.StartupReadBringsThePartUp := by
  intro s cause u starting consistent empty hu
  rw [← loaded_eq] at hu
  subst hu
  have stopped := consistent.reloading (.inl (by rw [starting]; exact nofun))
  have reloaded : Reloaded s { s.takeUp s.image.loaded with startup := none } := { takeUp_reloaded stopped with }
  obtain ⟨more, up⟩ := reloaded.broughtUp (by rw [empty]; decide) (readyCause cause)
  have stands := comeUp_stands (readyCause cause) { s.takeUp s.image.loaded with startup := none }
  refine ⟨_, more, exec_startupSetupRead starting, stands.startup, up.setup, up.image,
    stands.actionLevels.trans (takeUp_only _ s).actionLevels, up.index, up.requests, up.engine, up.running, up.stopped, ?_⟩
  have notices := up.notices
  rw [empty, List.nil_append] at notices
  exact notices

/-! ### RESTART (R198) -/

/-- R198 steps 1 and 2: what a restart that begins leaves, the engine having been STOPPED or RUNNING. -/
structure RestartBegun (q : Request) (s t : State) : Prop where
  engine       : t.engine = .stopped
  setup        : t.setup = s.setup
  image        : t.image = s.image
  runNumber    : t.runNumber = s.runNumber
  actionLevels : t.actionLevels = s.actionLevels
  inputs       : t.inputs = s.inputs
  replies      : t.link.replies = s.link.replies ++ [replyTo q (okay [])]
  requests     : t.link.requests = s.link.requests

theorem RestartBegun.dispatcherTo {q : Request} {s t : State} (h : RestartBegun q s t) (d : Dispatcher) :
    RestartBegun q s (t.dispatcherTo d) := { h with }

theorem AtRest.dispatcherTo {s : State} (h : AtRest s) (d : Dispatcher) : AtRest (s.dispatcherTo d) := { h with }

/-- R180: the reply of a restart is placed before the engine stops. -/
def State.restartReplied (q : Request) (s : State) : State :=
  { s with link := s.link.placeReply (replyTo q (okay [])) }

theorem beginRestart_stopped {s : State} (stopped : s.engine = .stopped) (q : Request) :
    s.beginRestart q = (s.restartReplied q).dispatcherTo (.executing .restarting) := by
  simp only [State.beginRestart, State.restartReplied, stopped]

theorem beginRestart_running {s : State} (running : s.engine = .running) (q : Request) :
    s.beginRestart q = (s.restartReplied q).stopEngine.dispatcherTo (.executing .restarting) := by
  simp only [State.beginRestart, State.restartReplied, running]

theorem beginRestart_begun (q : Request) (s : State) : RestartBegun q s (s.beginRestart q) := by
  have replies : (s.restartReplied q).link.replies = _ := Link.placeReply_replies _ s.link
  have requests : (s.restartReplied q).link.requests = _ := Link.placeReply_requests _ s.link
  cases e : s.engine with
  | stopped =>
    rw [beginRestart_stopped e]
    have begun : RestartBegun q s (s.restartReplied q) := ⟨e, rfl, rfl, rfl, rfl, rfl, replies, requests⟩
    exact begun.dispatcherTo _
  | running =>
    rw [beginRestart_running e]
    have only := stopEngine_only (s.restartReplied q)
    have control := stopEngine_controlStands (s.restartReplied q)
    have begun : RestartBegun q s (s.restartReplied q).stopEngine :=
      ⟨only.engine, only.setup, only.image, only.runNumber, only.actionLevels, only.inputs,
        control.replies.trans replies, control.requests.trans requests⟩
    exact begun.dispatcherTo _

theorem beginRestart_dispatcher (q : Request) (s : State) : (s.beginRestart q).link.dispatcher = .executing .restarting :=
  rfl

theorem exec_restart {s : State} {q : Request} (current : s.current = some q) (kind : q.kind = 0x05)
    (empty : q.payload = []) :
    exec .restart s = .next (if s.link.replies.length < 4 then s.beginRestart q else s) := by
  refine congrArg Host.Outcome.next ((onRequest_current _ _ s q current (decide_eq_true kind)).trans ?_)
  rw [if_neg (not_not.2 empty)]
  rfl

theorem exec_restartSetupRead {s : State} (restarting : s.link.dispatcher = .executing .restarting) :
    exec .restartSetupRead s = .next s.endRestart :=
  congrArg Host.Outcome.next (if_pos restarting)

/-- R198 step 4: the counts of a part that has been restarted, before it runs and at the start of a run. -/
structure RuntimeCleared (s : State) : Prop where
  levels      : ∀ o : Fin 4, s.actionLevels[o] = false
  measures    : ∀ m : Fin 16, s.measures[m] = clearedMeasure
  assertions  : ∀ c : Fin 32, s.conditions[c].assertions = 0
  expiries    : ∀ k : Fin 4, s.timers[k].expiries = 0
  frameNumber : s.iface.frameNumber = 0
  shortFrames : s.iface.shortFrames = 0
  overruns    : s.iface.overruns = 0
  syncLosses  : s.iface.syncLosses = 0

theorem clearRuntime_cleared (s : State) : RuntimeCleared s.clearRuntime where
  levels o := tab_get _ o
  measures m := tab_get _ m
  assertions c := congrArg ConditionState.assertions (tab_get _ c)
  expiries k := congrArg TimerState.expiries (tab_get _ k)
  frameNumber := rfl
  shortFrames := rfl
  overruns := rfl
  syncLosses := rfl

/-- R191, R198: a run starts from cleared counts too. -/
theorem RuntimeCleared.comeUp {s : State} (h : RuntimeCleared s) (cause : ReadyCause) : RuntimeCleared (s.comeUp cause) := by
  by_cases started : autoOutcome s.setup = .started
  · rw [comeUp_of_started started]
    have iface := startRun_interfaceEntered (s.readied cause)
    refine ⟨fun o => ?_, startRun_measure _, fun c => ?_, fun k => ?_, iface.frameNumber, iface.shortFrames, iface.overruns,
      iface.syncLosses⟩
    · rw [startRun_actionLevels]
      exact h.levels o
    · rw [startRun_condition]
    · rw [startRun_timer]
      split <;> rfl
  · rw [comeUp_of_not_started started]
    exact { h with }

theorem requestDone_dispatcher {l : Link} {q : Request} {rest : List Request} (h : l.requests = q :: rest) :
    l.requestDone.dispatcher = if rest = [] then .idle else .executing .begun := by
  unfold Link.requestDone
  rw [h, List.tail_cons]
  cases rest <;> rfl

/-- Settles O23: the beginning by the engine state; the end by the setup taken up, the counts cleared, and `comeUp`. -/
theorem restartStopsThenBringsThePartUp : Obligations.RestartStopsThenBringsThePartUp := by
  refine ⟨fun s q current kind empty => ⟨fun full => ?_, fun room => ?_⟩, fun s u q rest restarting consistent waiting room hu => ?_⟩
  · rw [exec_restart current kind empty, if_neg (Nat.not_lt.2 full)]
  · have begun := beginRestart_begun q s
    have reply : replyTo q (okay []) = { kind := 0x85, tag := q.tag, status := .ok, data := [] } := by
      rw [replyTo, kind]
      rfl
    refine ⟨s.beginRestart q, by rw [exec_restart current kind empty, if_pos room], begun.engine, begun.setup, begun.image,
      begun.runNumber, begun.actionLevels, begun.inputs, reply ▸ begun.replies, begun.requests, beginRestart_dispatcher q s,
      fun stopped => ?_, fun running => ?_⟩
    · rw [beginRestart_stopped stopped]
      exact ⟨rfl, Link.placeReply_notices _ s.link⟩
    · rw [beginRestart_running running]
      have rest := (stopEngine_rest (s.restartReplied q)).dispatcherTo (.executing .restarting)
      exact ⟨rest.events, rest.iface.1, rest.units, rest.conditions⟩
  · rw [← loaded_eq] at hu
    subst hu
    have stopped := consistent.reloading (.inr (.inl restarting))
    have reloaded : Reloaded s (s.takeUp s.image.loaded).clearRuntime := { takeUp_reloaded stopped with }
    obtain ⟨more, up⟩ := reloaded.broughtUp room .restart
    have cleared := (clearRuntime_cleared (s.takeUp s.image.loaded)).comeUp .restart
    have requests := up.requests.trans waiting
    exact ⟨s.endRestart, more, exec_restartSetupRead restarting, up.setup, up.image, up.index, up.nextId, up.mem,
      cleared.levels, cleared.measures, cleared.assertions, cleared.expiries, cleared.frameNumber, cleared.shortFrames,
      cleared.overruns, cleared.syncLosses, up.engine, up.running, up.stopped, congrArg List.tail requests, up.replies,
      requestDone_dispatcher requests, up.notices⟩

end Sys2Proof.Machine
